-- ==== Sys2Proof/Word.lean ====
section
/-! DEFINITION. The word types of the block (R7): every value is unsigned (R9). -/

namespace Sys2Proof

/-- A control word: `CW_BITS = 16` (R6, R7). -/
abbrev Word16 := BitVec 16

/-- A sample or a table value: `SAMPLE_BITS = 12` (R6, R7). -/
abbrev Word12 := BitVec 12

/-- A frame byte (R7). -/
abbrev Byte := BitVec 8

/-- Half a frame byte (R29). -/
abbrev Nibble := BitVec 4

/-- Six acquired samples, one a channel, as integers that may be wider than the port (R67). -/
abbrev Samples := Vector Nat 6

/-- The six 12-bit sample ports `samples[0..5]` (R25). -/
abbrev SamplePorts := Vector Word12 6

end Sys2Proof
end

