-- ==== Sys2Proof/Syntax.lean ====
section
/-! DEFINITION. The instruction type, one constructor for each mnemonic of spec/opcode_table.json, and the
events at the block's input and the encodings that carry the external ones. -/

namespace Sys2Proof

/-- An operation of the block (rows EVENT and INTERNAL of the opcode table) or the effect of one field value of a
control word (rows CW16). The table's two DECODE rows, INTERNAL with operand `w` and CW16 with `w`'s bits, are one
operation (R56) and one constructor. -/
inductive Instr where
  /-- RESET (R110). -/
  | reset
  /-- TICK (R88): the wired word, the wireless word, the six samples. -/
  | tick (cwWired cwWireless : Option Word16) (samples : Samples)
  /-- DECODE (R56). -/
  | decode (w : Word16)
  /-- ACQUIRE (R68). -/
  | acquire (samples : Samples)
  /-- PACK (R77). -/
  | pack
  /-- PHASE_A (R75). -/
  | phaseA (v : Word12)
  /-- PHASE_B (R76). -/
  | phaseB (v : Word12)
  /-- EMIT (R92). -/
  | emit
  /-- CW.RUN0: bit 15 is 0 (R42). -/
  | cwRun0
  /-- CW.RUN1: bit 15 is 1 (R42). -/
  | cwRun1
  /-- CW.MODE0: bits 14..13 are 0 (R45). -/
  | cwMode0
  /-- CW.MODE1: bits 14..13 are 1 (R45). -/
  | cwMode1
  /-- CW.MODE2: bits 14..13 are 2 (R45). -/
  | cwMode2
  /-- CW.MODE3: bits 14..13 are 3 (R45). -/
  | cwMode3
  /-- CW.RATE0: bits 12..11 are 0 (R46). -/
  | cwRate0
  /-- CW.RATE1: bits 12..11 are 1 (R46). -/
  | cwRate1
  /-- CW.RATE2: bits 12..11 are 2 (R46). -/
  | cwRate2
  /-- CW.RATE3: bits 12..11 are 3 (R46). -/
  | cwRate3
  /-- CW.CH0: channel 0's select bit, bit 10, is `on` (R44). -/
  | cwCh0 (on : Bool)
  /-- CW.CH1: channel 1's select bit, bit 9, is `on` (R44). -/
  | cwCh1 (on : Bool)
  /-- CW.CH2: channel 2's select bit, bit 8, is `on` (R44). -/
  | cwCh2 (on : Bool)
  /-- CW.CH3: channel 3's select bit, bit 7, is `on` (R44). -/
  | cwCh3 (on : Bool)
  /-- CW.CH4: channel 4's select bit, bit 6, is `on` (R44). -/
  | cwCh4 (on : Bool)
  /-- CW.CH5: channel 5's select bit, bit 5, is `on` (R44). -/
  | cwCh5 (on : Bool)
deriving DecidableEq, Repr

/-- The format column of the opcode table (R55). -/
inductive Format where
  /-- An external event with a selector code `ev`. -/
  | event
  /-- An operation TICK or PACK starts; no bit pattern selects it. -/
  | internal
  /-- A whole control word. -/
  | cw16
  /-- One field value of a control word. -/
  | cw16Field
deriving DecidableEq, Repr

/-- The format of each instruction's row (R55). -/
def Instr.format : Instr → Format
  | .reset => .event
  | .tick _ _ _ => .event
  | .decode _ => .cw16
  | .acquire _ => .internal
  | .pack => .internal
  | .phaseA _ => .internal
  | .phaseB _ => .internal
  | .emit => .internal
  | .cwRun0 => .cw16Field
  | .cwRun1 => .cw16Field
  | .cwMode0 => .cw16Field
  | .cwMode1 => .cw16Field
  | .cwMode2 => .cw16Field
  | .cwMode3 => .cw16Field
  | .cwRate0 => .cw16Field
  | .cwRate1 => .cw16Field
  | .cwRate2 => .cw16Field
  | .cwRate3 => .cw16Field
  | .cwCh0 _ => .cw16Field
  | .cwCh1 _ => .cw16Field
  | .cwCh2 _ => .cw16Field
  | .cwCh3 _ => .cw16Field
  | .cwCh4 _ => .cw16Field
  | .cwCh5 _ => .cw16Field

/-- What a step takes (R87): the selector `ev` of R52 and the input ports of R25. -/
@[ext]
structure Event where
  ev : BitVec 2
  cwWired : Option Word16
  cwWireless : Option Word16
  samples : SamplePorts
deriving DecidableEq, Repr

/-- What the encodings of R41 and R52 encode: an event, or one `CW16` word. A word is not an event of its own (R87): it
reaches the block on a word port of an event. -/
inductive Transaction where
  | event (e : Event)
  | controlWord (w : Word16)
deriving DecidableEq, Repr

/-- Whether the encoding is of an event (R87). -/
def Transaction.isEvent : Transaction → Bool
  | .event _ => true
  | .controlWord _ => false

end Sys2Proof
end

