-- ==== Sys2Proof/WellFormed.lean ====
section
/-! DEFINITION. Which instructions the ports can carry: every sample lies in `[0, 4095]` (R67, the acquisition
collaborator's duty of R95). A sample outside it is no error of the block: ACQUIRE truncates it (R68). -/

namespace Sys2Proof

/-- Every sample fits its 12-bit port (R25, R67). -/
def Samples.fit (s : Samples) : Bool := decide (∀ i : Fin 6, s[i] < 4096)

/-- An instruction whose operands fit the widths R7 and R25 give them. -/
def Instr.wf : Instr → Bool
  | .reset => true
  | .tick _ _ samples => Samples.fit samples
  | .decode _ => true
  | .acquire samples => Samples.fit samples
  | .pack => true
  | .phaseA _ => true
  | .phaseB _ => true
  | .emit => true
  | .cwRun0 => true
  | .cwRun1 => true
  | .cwMode0 => true
  | .cwMode1 => true
  | .cwMode2 => true
  | .cwMode3 => true
  | .cwRate0 => true
  | .cwRate1 => true
  | .cwRate2 => true
  | .cwRate3 => true
  | .cwCh0 _ => true
  | .cwCh1 _ => true
  | .cwCh2 _ => true
  | .cwCh3 _ => true
  | .cwCh4 _ => true
  | .cwCh5 _ => true

end Sys2Proof
end

