-- ==== Sys2Proof/Decode.lean ====
section
/-! DEFINITION. Decoding a transaction to an instruction, the field rows of a control word, and after them the
encoder (spec/30_encoding.md). -/

namespace Sys2Proof

/-- Why a transaction is no instruction. -/
inductive DecodeError where
  /-- `ev` is `10` or `11`: "reserved by the spec", "a model refuses it" (R52). -/
  | reservedEvent (ev : BitVec 2)
deriving DecidableEq, Repr

/-- The TICK of an event's ports (R25, R88). -/
def Event.tick (e : Event) : Instr :=
  .tick e.cwWired e.cwWireless (Vector.ofFn fun i : Fin 6 => e.samples[i].toNat)

/-- What an event's selector and ports stand for (R52). RESET has no payload: the other ports are not read. -/
def decodeEvent (e : Event) : Except DecodeError Instr :=
  if e.ev = 0b00 then .ok .reset
  else if e.ev = 0b01 then .ok e.tick
  else .error (.reservedEvent e.ev)

/-- Total decoding: an event by its selector (R52), a control word always as DECODE (R48, R55: "every word
matches"). -/
def decode : Transaction → Except DecodeError Instr
  | .event e => decodeEvent e
  | .controlWord w => .ok (.decode w)

/-! ### The field rows of a control word (R55) -/

/-- A `CW16` row of the opcode table for one field value. -/
structure FieldRow where
  mask : Word16
  bits : Word16
  instr : Instr
deriving DecidableEq, Repr

/-- A row matches the words that agree with it under its mask. -/
def FieldRow.isMatch (r : FieldRow) (w : Word16) : Bool := w &&& r.mask == r.bits

/-- CW.RUN0 and CW.RUN1. -/
def runRows : List FieldRow :=
  [⟨0x8000, 0x0000, .cwRun0⟩, ⟨0x8000, 0x8000, .cwRun1⟩]

/-- CW.MODE0 to CW.MODE3. -/
def modeRows : List FieldRow :=
  [⟨0x6000, 0x0000, .cwMode0⟩, ⟨0x6000, 0x2000, .cwMode1⟩, ⟨0x6000, 0x4000, .cwMode2⟩, ⟨0x6000, 0x6000, .cwMode3⟩]

/-- CW.RATE0 to CW.RATE3. -/
def rateRows : List FieldRow :=
  [⟨0x1800, 0x0000, .cwRate0⟩, ⟨0x1800, 0x0800, .cwRate1⟩, ⟨0x1800, 0x1000, .cwRate2⟩, ⟨0x1800, 0x1800, .cwRate3⟩]

/-- CW.CH0 to CW.CH5, each with its select bit 1 (`match = mask`, R55) and 0 ("when the bit is 0 the channel is
inactive"). -/
def channelRows : List FieldRow :=
  [⟨0x0400, 0x0400, .cwCh0 true⟩, ⟨0x0400, 0x0000, .cwCh0 false⟩,
   ⟨0x0200, 0x0200, .cwCh1 true⟩, ⟨0x0200, 0x0000, .cwCh1 false⟩,
   ⟨0x0100, 0x0100, .cwCh2 true⟩, ⟨0x0100, 0x0000, .cwCh2 false⟩,
   ⟨0x0080, 0x0080, .cwCh3 true⟩, ⟨0x0080, 0x0000, .cwCh3 false⟩,
   ⟨0x0040, 0x0040, .cwCh4 true⟩, ⟨0x0040, 0x0000, .cwCh4 false⟩,
   ⟨0x0020, 0x0020, .cwCh5 true⟩, ⟨0x0020, 0x0000, .cwCh5 false⟩]

/-- Every field row of the opcode table. -/
def allFieldRows : List FieldRow := runRows ++ modeRows ++ rateRows ++ channelRows

/-- The field rows that a word matches, in the table's order: one each of run, mode and rate, and one a channel. -/
def fieldRows (w : Word16) : List Instr :=
  (allFieldRows.filter (·.isMatch w)).map (·.instr)

/-- The row that gives the field under `mask` of the word `w`, none where no row has that mask. -/
def decodeField (mask w : Word16) : Option Instr :=
  ((allFieldRows.filter (·.mask == mask)).find? (·.isMatch w)).map (·.instr)

/-! ### The encoder -/

/-- `cw(run, mode, rate, mask)` (R49): the control word of four fields, the unused bits 0. -/
def cw (run : Bool) (mode rate : BitVec 2) (mask : BitVec 6) : Word16 :=
  BitVec.ofBool run ++ mode ++ rate ++ mask ++ (0 : BitVec 5)

/-- The transaction that carries an instruction (R42, R52). An INTERNAL operation has none ("no external code", R52),
and a field row is a part of a control word, encoded by `encodeField`. -/
def encode : Instr → Option Transaction
  | .reset => some (.event ⟨0b00, none, none, Vector.replicate 6 0⟩)
  | .tick cwWired cwWireless samples =>
    some (.event ⟨0b01, cwWired, cwWireless, Vector.ofFn fun i : Fin 6 => BitVec.ofNat 12 samples[i]⟩)
  | .decode w => some (.controlWord w)
  | .acquire _ => none
  | .pack => none
  | .phaseA _ => none
  | .phaseB _ => none
  | .emit => none
  | .cwRun0 => none
  | .cwRun1 => none
  | .cwMode0 => none
  | .cwMode1 => none
  | .cwMode2 => none
  | .cwMode3 => none
  | .cwRate0 => none
  | .cwRate1 => none
  | .cwRate2 => none
  | .cwRate3 => none
  | .cwCh0 _ => none
  | .cwCh1 _ => none
  | .cwCh2 _ => none
  | .cwCh3 _ => none
  | .cwCh4 _ => none
  | .cwCh5 _ => none

/-- The mask and the match value of a field row (R55). -/
def encodeField : Instr → Option (Word16 × Word16)
  | .reset => none
  | .tick _ _ _ => none
  | .decode _ => none
  | .acquire _ => none
  | .pack => none
  | .phaseA _ => none
  | .phaseB _ => none
  | .emit => none
  | .cwRun0 => some (0x8000, 0x0000)
  | .cwRun1 => some (0x8000, 0x8000)
  | .cwMode0 => some (0x6000, 0x0000)
  | .cwMode1 => some (0x6000, 0x2000)
  | .cwMode2 => some (0x6000, 0x4000)
  | .cwMode3 => some (0x6000, 0x6000)
  | .cwRate0 => some (0x1800, 0x0000)
  | .cwRate1 => some (0x1800, 0x0800)
  | .cwRate2 => some (0x1800, 0x1000)
  | .cwRate3 => some (0x1800, 0x1800)
  | .cwCh0 on => some (0x0400, if on then 0x0400 else 0)
  | .cwCh1 on => some (0x0200, if on then 0x0200 else 0)
  | .cwCh2 on => some (0x0100, if on then 0x0100 else 0)
  | .cwCh3 on => some (0x0080, if on then 0x0080 else 0)
  | .cwCh4 on => some (0x0040, if on then 0x0040 else 0)
  | .cwCh5 on => some (0x0020, if on then 0x0020 else 0)

/-! ### The host's numbering of a row's bits -/

/-- The transaction of an opcode-table word of `nbits` bits. An EVENT row has two bits: a unit of at most one byte
whose value is a 2-bit code is the event of that code, its payload's bits 0 (no words, six samples of 0). Any other
word is a control word, the bits above `nbits` 0. An INTERNAL row has no bits and no transaction. -/
def tableTransaction (nbits w : Nat) : Option Transaction :=
  if nbits = 0 then none
  else if nbits ≤ 8 ∧ w < 4 then some (.event ⟨BitVec.ofNat 2 w, none, none, Vector.replicate 6 0⟩)
  else some (.controlWord (BitVec.ofNat 16 w))

/-- The event on which a transaction reaches the block: a control word comes with a tick (R66, R87), here on its wired
port (R65: the source does not matter), the samples 0 (log entry 4). -/
def Transaction.asEvent : Transaction → Event
  | .event e => e
  | .controlWord w => ⟨0b01, some w, none, Vector.replicate 6 0⟩

/-- The instruction of an opcode-table word, none where the decoder refuses it. -/
def decodeTableWord (nbits w : Nat) : Option Instr :=
  match tableTransaction nbits w with
  | none => none
  | some t => (decode t).toOption

end Sys2Proof
end

