-- ==== Sys2Proof/Config.lean ====
section
/-! DEFINITION. The parameters of R6. The fixed ones (`CW_BITS`, `NUM_CHANNELS`, `SAMPLE_BITS`, `FRAME_MAX`,
`NUM_TRANSPORTS`) are the widths and lengths of the model's types; the ones R6 calls parameters are below. -/

namespace Sys2Proof

/-- The parameters of R6 that a machine is built with. A `State` carries them and no step writes them, so a
statement about every state holds for every value of them (log entry 3). -/
structure Params where
  /-- `RATE_HZ`, indexed by `rateCode` (R6, R46). -/
  rateHz : Vector Nat 4
  /-- `RESET_WORD` (R6, R110). -/
  resetWord : Word16
  /-- `DECODE_FIRST`: a tick's decodes come before its ACQUIRE, PACK and EMIT (R6, R88). -/
  decodeFirst : Bool
deriving DecidableEq, Repr

/-- R6's default of each parameter. -/
def Config.defaults : Params where
  rateHz := #v[10, 100, 500, 1000]
  resetWord := 0x0000
  decodeFirst := true

/-- `PARSE_TO_WORD` where no source fixes it (R6, R53, D16): what the parser upstream of the block delivers for an
empty digit string or one above 65535, a word or none. It has no body: nothing is known of it (log entry 9). -/
opaque Config.parseToWord : List Byte → Option Word16

end Sys2Proof
end

