-- ==== Sys2Proof/Machine/State.lean ====
section
/-! DEFINITION. The state: the block's own elements, exactly R13's table (`Block`), and around them the parameters
and the two sides of the interface (R14, R25). Plain data. -/

namespace Sys2Proof.Machine

/-- The phase the next active channel will run (R24). -/
inductive Phase where
  | A
  | B
deriving DecidableEq, Repr

/-- The two transports (R6 `NUM_TRANSPORTS`). -/
inductive Transport where
  | wired
  | wireless
deriving DecidableEq, Repr

/-- The external functions and devices the block calls (glossary of 00_scope.md). -/
inductive Collaborator where
  | acquisition
  | transport (t : Transport)
deriving DecidableEq, Repr

/-- One entry of the channel activation table (R15). -/
@[ext]
structure Channel where
  /-- `T.active[i]` -/
  active : Bool
  /-- `T.value[i]`, the channel's most recent sample -/
  value : Word12
deriving DecidableEq, Repr

/-- The configuration registers (R21). -/
@[ext]
structure CfgRegs where
  /-- 1 = streaming enabled -/
  runState : Bool
  /-- the raw two bits; the fallback happens where the mode is used (R57) -/
  transportMode : BitVec 2
  rateCode : BitVec 2
deriving DecidableEq, Repr

/-- The block's state, "exactly the following, and nothing else" (R13). -/
@[ext]
structure Block where
  cfg : CfgRegs
  /-- the channel activation table `T` (R15) -/
  table : Vector Channel 6
  /-- the frame buffer `buf[0..8]` (R23) -/
  buf : Vector Byte 9
  /-- 0..9 (R23) -/
  frameLen : Fin 10
  /-- 0..9 (R24) -/
  cursor : Fin 10
  phase : Phase
deriving DecidableEq, Repr

/-- Whether each collaborator answers (R98). The environment's, not the block's. -/
@[ext]
structure Collaborators where
  acquisition : Bool
  wired : Bool
  wireless : Bool
deriving DecidableEq, Repr

/-- Every collaborator answers, the duty of R112 (3). -/
def Collaborators.answering : Collaborators := ⟨true, true, true⟩

/-- One event at the input (R87), with the collaborators that answer while it is handled. -/
@[ext]
structure Arrival where
  event : Event
  answers : Collaborators
deriving DecidableEq, Repr

/-- `emit(sel, bytes)` (R9): a byte list handed to a transport. -/
@[ext]
structure Emission where
  sel : Transport
  bytes : List Byte
deriving DecidableEq, Repr

@[ext]
structure State where
  /-- the block's own state (R13) -/
  block : Block
  /-- the parameters of R6; no step writes them -/
  params : Params
  /-- the collaborators that answer now (R98); taken from each arrival -/
  collab : Collaborators
  /-- the events still to come, first to arrive first (R87, R101) -/
  inbox : List Arrival
  /-- everything handed to the transports, oldest first (R93) -/
  emitted : List Emission
deriving DecidableEq, Repr

/-- Why the machine stops for good. -/
inductive Fault where
  /-- TICK raises it where the collaborator `c` does not answer: the tick does not complete and the block is halted
  for good (R98). Safe: nothing is claimed of a halted block. -/
  | tickHalted (c : Collaborator)
deriving DecidableEq, Repr

/-- Why an instruction or an event has no meaning. -/
inductive Refusal where
  /-- an arm of `exec` without a meaning (none is left). Safe. -/
  | notModelled (mnemonic : String)
  /-- `step` raises it for an event code `10` or `11` (R52: "a model refuses it"). Safe. -/
  | reservedEvent (ev : BitVec 2)
  /-- PHASE_A outside phase A and PHASE_B outside phase B raise it (R75, R76: "requires phase"). Safe: no event
  reaches it, since PACK selects the phase. -/
  | packerPhase
  /-- PHASE_A and PHASE_B raise it where they would write past `buf[8]` (R27: no such index can be formed). Safe: no
  event reaches it. -/
  | packerBounds
deriving DecidableEq, Repr

/-- Every element of the block 0, phase A (R26). -/
def Block.zero : Block where
  cfg := ⟨false, 0, 0⟩
  table := Vector.replicate 6 ⟨false, 0⟩
  buf := Vector.replicate 9 0
  frameLen := 0
  cursor := 0
  phase := .A

/-- The machine right after reset (R26): every element 0, phase A, the parameters at R6's defaults, nothing arrived
and nothing emitted. -/
def State.reset : State where
  block := Block.zero
  params := Config.defaults
  collab := Collaborators.answering
  inbox := []
  emitted := []

end Sys2Proof.Machine
end

