-- ==== Sys2Proof/Machine/Operands.lean ====
section
/-! DEFINITION. The operand forms: the fields of a control word (R43), the sample input (R67), the slices of a sample
and the nibbles of a byte that the packer reads and writes (R9, R29). -/

namespace Sys2Proof.Machine

/-- `w[15]` (R43). -/
def runStateField (w : Word16) : Bool := w.getLsbD 15

/-- `w[14:13]` (R43). -/
def transportModeField (w : Word16) : BitVec 2 := w.extractLsb' 13 2

/-- `w[12:11]` (R43). -/
def rateCodeField (w : Word16) : BitVec 2 := w.extractLsb' 11 2

/-- `w[10:5]` (R43). -/
def channelMaskField (w : Word16) : BitVec 6 := w.extractLsb' 5 6

/-- Channel `i`'s select bit, `w[10 - i]` (R44). -/
def channelBit (w : Word16) (i : Fin 6) : Bool := w.getLsbD (10 - i.val)

/-- `trunc_12`: bits 11..0 of a sample that may be wider (R9, R67). -/
def trunc12 (n : Nat) : Word12 := BitVec.ofNat 12 n

/-- `v[11:4]`, what PHASE_A writes to a fresh byte (R75). -/
def highByte (v : Word12) : Byte := v.extractLsb' 4 8

/-- `v[3:0]`, what PHASE_A leaves in the pending byte (R75). -/
def lowNibble (v : Word12) : Nibble := v.extractLsb' 0 4

/-- `v[11:8]`, what completes the pending byte in PHASE_B (R76). -/
def highNibble (v : Word12) : Nibble := v.extractLsb' 8 4

/-- `v[7:0]`, what PHASE_B writes to a fresh byte (R76). -/
def lowByte (v : Word12) : Byte := v.extractLsb' 0 8

/-- `x[7:4] <- n`, the other bits unchanged (R9). -/
def setHighNibble (x : Byte) (n : Nibble) : Byte := n ++ x.extractLsb' 0 4

/-- `x[3:0] <- n`, the other bits unchanged (R9). -/
def setLowNibble (x : Byte) (n : Nibble) : Byte := x.extractLsb' 4 4 ++ n

/-- The bits of a byte, bit 7 first (R28). -/
def byteBits (x : Byte) : List Bool := (List.range 8).map fun n => x.getLsbD (7 - n)

/-- The bits of a sample, bit 11 first (R28). -/
def sampleBits (v : Word12) : List Bool := (List.range 12).map fun n => v.getLsbD (11 - n)

/-- `frameLength(k) = (3k + 1) div 2` (R74). -/
def frameLength (k : Nat) : Nat := (3 * k + 1) / 2

/-- The number of 1 bits of a 6-bit mask (R9). -/
def popcount (m : BitVec 6) : Nat := (List.range 6).countP (m.getLsbD ·)

end Sys2Proof.Machine
end

