-- ==== Sys2Proof/Machine/Flags.lean ====
section
/-! DEFINITION. The block has no condition codes; its one-bit elements are `cfg.runState` and the six `T.active[i]`
(R20). Here are their writes, the two reads that combine the flags (R18, R22) and the transport selection. -/

namespace Sys2Proof.Machine

/-- `cfg.runState <- run` (R57). -/
def Block.setRunState (run : Bool) (b : Block) : Block :=
  { b with cfg := { b.cfg with runState := run } }

/-- The entry after its flag is written: a new flag of 0 clears the value, a new flag of 1 keeps it (R58). -/
def Channel.select (on : Bool) (c : Channel) : Channel :=
  ⟨on, if on then c.value else 0⟩

/-- `T.active[i] <- on` for one channel, with staleness clearing (R58). -/
def Block.selectChannel (i : Fin 6) (on : Bool) (b : Block) : Block :=
  { b with table := b.table.set i (b.table[i].select on) }

/-- `T.active[i] <- w[10 - i]` for every channel, with staleness clearing (R58). -/
def Block.selectChannels (w : Word16) (b : Block) : Block :=
  { b with table := Vector.ofFn fun i : Fin 6 => b.table[i].select (channelBit w i) }

/-- `T.active[0] ‖ ... ‖ T.active[5]`, channel 0 most significant (R22, R72). -/
def Block.activeMask (b : Block) : BitVec 6 :=
  BitVec.ofBool b.table[0].active ++ BitVec.ofBool b.table[1].active ++ BitVec.ofBool b.table[2].active
    ++ BitVec.ofBool b.table[3].active ++ BitVec.ofBool b.table[4].active ++ BitVec.ofBool b.table[5].active

/-- `activeCount = popcount(T.active[0] ‖ ... ‖ T.active[5])` (R18). -/
def Block.activeCount (b : Block) : Nat := popcount b.activeMask

/-- Mode 1 selects wireless; modes 0, 2 and 3 select wired (R91). -/
def transportOf (mode : BitVec 2) : Transport := if mode = 1 then .wireless else .wired

end Sys2Proof.Machine
end

