-- ==== Sys2Proof/Machine/Ops.lean ====
section
/-! DEFINITION. The named operations over the block's storage (R27) that the meanings share. There is no memory bus
(R27), no exception to take (R97, R102) and no return from one (R102), so no such operation stands here. -/

namespace Sys2Proof.Machine

/-- Change the block and nothing around it. -/
def State.mapBlock (f : Block → Block) (s : State) : State := { s with block := f s.block }

/-! ### Configuration registers (R21) -/

/-- `cfg.transportMode <- mode`, the raw two bits (R57). -/
def Block.setTransportMode (mode : BitVec 2) (b : Block) : Block :=
  { b with cfg := { b.cfg with transportMode := mode } }

/-- `cfg.rateCode <- rate` (R57). -/
def Block.setRateCode (rate : BitVec 2) (b : Block) : Block :=
  { b with cfg := { b.cfg with rateCode := rate } }

/-- DECODE (R56): every configuration register and every entry of the table. -/
def Block.decodeWord (w : Word16) (b : Block) : Block :=
  (((b.setRunState (runStateField w)).setTransportMode (transportModeField w)).setRateCode
    (rateCodeField w)).selectChannels w

/-- DECODE of a word that may be absent: `none` means no DECODE (R66). -/
def Block.decodeOption (cw : Option Word16) (b : Block) : Block :=
  match cw with
  | none => b
  | some w => b.decodeWord w

/-! ### The activation table (R15) -/

/-- `T.value[i] <- trunc_12(n)` if the entry is active; otherwise the sample is discarded (R68). -/
def Channel.load (n : Nat) (c : Channel) : Channel :=
  if c.active then { c with value := trunc12 n } else c

/-- ACQUIRE (R68). -/
def Block.acquire (samples : Samples) (b : Block) : Block :=
  { b with table := Vector.ofFn fun i : Fin 6 => b.table[i].load samples[i] }

/-- The entry of channel `i` in the list of active channels, if it is active (R71). -/
def Block.activeEntry (b : Block) (i : Fin 6) : Option (Fin 6 × Word12) :=
  if b.table[i].active then some (i, b.table[i].value) else none

/-- `activeList(T)`: the active channels with their values, ascending (R71). -/
def Block.activeList (b : Block) : List (Fin 6 × Word12) :=
  (List.finRange 6).filterMap b.activeEntry

/-- The values of `activeList(T)` in order. -/
def Block.activeValues (b : Block) : List Word12 := b.activeList.map Prod.snd

/-! ### The frame buffer (R23) and the packer's registers (R24) -/

/-- `buf[j]` (R9). -/
def Block.readByte (b : Block) (j : Nat) : Byte := b.buf[j]?.getD 0

/-- `buf[j] <- x` (R9). -/
def Block.writeByte (j : Nat) (x : Byte) (b : Block) : Block :=
  { b with buf := b.buf.setIfInBounds j x }

/-- `buf[j][7:4] <- n` (R9). -/
def Block.writeHighNibble (j : Nat) (n : Nibble) (b : Block) : Block :=
  b.writeByte j (setHighNibble (b.readByte j) n)

/-- `buf[j][3:0] <- n` (R9). -/
def Block.writeLowNibble (j : Nat) (n : Nibble) (b : Block) : Block :=
  b.writeByte j (setLowNibble (b.readByte j) n)

/-- PHASE_A (R75). -/
def Block.phaseA (v : Word12) (b : Block) : Block :=
  { (b.writeByte b.cursor (highByte v)).writeHighNibble (b.cursor + 1) (lowNibble v) with
    cursor := b.cursor + 1, phase := .B }

/-- PHASE_B (R76). -/
def Block.phaseB (v : Word12) (b : Block) : Block :=
  { (b.writeLowNibble b.cursor (highNibble v)).writeByte (b.cursor + 1) (lowByte v) with
    cursor := b.cursor + 2, phase := .A }

/-- Both phases write `buf[cursor]` and `buf[cursor + 1]`; this is the second one's being in the buffer (R75, R76). -/
def Block.phaseFits (b : Block) : Bool := decide (b.cursor.val + 1 ≤ 8)

/-- One turn of PACK's loop: the phase register selects the phase (R77, R78). -/
def Block.packSample (b : Block) (v : Word12) : Block :=
  match b.phase with
  | .A => b.phaseA v
  | .B => b.phaseB v

/-- The start of a pass: every byte 0, cursor 0, phase A (R77, R79). -/
def Block.clearFrame (b : Block) : Block :=
  { b with buf := Vector.replicate 9 0, cursor := 0, phase := .A }

/-- The end of a pass: `frameLen <- cursor + (1 if phase = B else 0)` (R77). -/
def Block.closeFrame (b : Block) : Block :=
  { b with frameLen := b.cursor + (if b.phase = .B then 1 else 0) }

/-- PACK (R77). Its `trunc_12` is the identity on a 12-bit table value. -/
def Block.pack (b : Block) : Block := (b.activeValues.foldl Block.packSample b.clearFrame).closeFrame

/-- `[buf[0], ..., buf[frameLen - 1]]` (R92). -/
def Block.frameBytes (b : Block) : List Byte := b.buf.toList.take b.frameLen

/-! ### Reset (R110) -/

/-- RESET (R110): every element 0, then DECODE(RESET_WORD). -/
def Block.afterReset (resetWord : Word16) : Block := Block.zero.decodeWord resetWord

/-! ### The output side (R92) and the input side (R87) -/

/-- EMIT (R92): the frame goes to the selected transport while `cfg.runState` is 1; otherwise there is no emission. -/
def State.emitFrame (s : State) : State :=
  if s.block.cfg.runState then
    { s with emitted := s.emitted ++ [⟨transportOf s.block.cfg.transportMode, s.block.frameBytes⟩] }
  else s

/-- The first collaborator that does not answer (R98). -/
def Collaborators.missing (c : Collaborators) : Option Collaborator :=
  if !c.acquisition then some .acquisition
  else if !c.wired then some (.transport .wired)
  else if !c.wireless then some (.transport .wireless)
  else none

/-- The next event and the state in which it is handled: it has left the inbox, and the collaborators answer as
it says. -/
def State.fetch (s : State) : Option (Event × State) :=
  match s.inbox with
  | [] => none
  | a :: rest => some (a.event, { s with inbox := rest, collab := a.answers })

end Sys2Proof.Machine
end

