-- ==== Sys2Proof/Machine/Decoder.lean ====
section
/-! DEFINITION. The meanings of DECODE and of the field rows of a control word (spec/40_decoder.md, R55). A field row
writes what DECODE writes from that field alone. -/

namespace Sys2Proof.Machine

/-- DECODE (R56). -/
def execDecode (w : Word16) (s : State) : Host.Outcome State Fault Refusal :=
  .next (s.mapBlock (Block.decodeWord w))

/-- CW.RUN0: `cfg.runState <- 0` (R42, R56). -/
def execCwRun0 (s : State) : Host.Outcome State Fault Refusal :=
  .next (s.mapBlock (Block.setRunState false))

/-- CW.RUN1: `cfg.runState <- 1` (R42, R56). -/
def execCwRun1 (s : State) : Host.Outcome State Fault Refusal :=
  .next (s.mapBlock (Block.setRunState true))

/-- CW.MODE0: `cfg.transportMode <- 0` (R45, R57). -/
def execCwMode0 (s : State) : Host.Outcome State Fault Refusal :=
  .next (s.mapBlock (Block.setTransportMode 0))

/-- CW.MODE1: `cfg.transportMode <- 1` (R45, R57). -/
def execCwMode1 (s : State) : Host.Outcome State Fault Refusal :=
  .next (s.mapBlock (Block.setTransportMode 1))

/-- CW.MODE2: `cfg.transportMode <- 2`, stored as given (R45, R57). -/
def execCwMode2 (s : State) : Host.Outcome State Fault Refusal :=
  .next (s.mapBlock (Block.setTransportMode 2))

/-- CW.MODE3: `cfg.transportMode <- 3`, stored as given (R45, R57). -/
def execCwMode3 (s : State) : Host.Outcome State Fault Refusal :=
  .next (s.mapBlock (Block.setTransportMode 3))

/-- CW.RATE0: `cfg.rateCode <- 0` (R46, R57). -/
def execCwRate0 (s : State) : Host.Outcome State Fault Refusal :=
  .next (s.mapBlock (Block.setRateCode 0))

/-- CW.RATE1: `cfg.rateCode <- 1` (R46, R57). -/
def execCwRate1 (s : State) : Host.Outcome State Fault Refusal :=
  .next (s.mapBlock (Block.setRateCode 1))

/-- CW.RATE2: `cfg.rateCode <- 2` (R46, R57). -/
def execCwRate2 (s : State) : Host.Outcome State Fault Refusal :=
  .next (s.mapBlock (Block.setRateCode 2))

/-- CW.RATE3: `cfg.rateCode <- 3` (R46, R57). -/
def execCwRate3 (s : State) : Host.Outcome State Fault Refusal :=
  .next (s.mapBlock (Block.setRateCode 3))

/-- CW.CH0: `T.active[0] <- on`, and `T.value[0] <- 0` if `on` is 0 (R44, R58). -/
def execCwCh0 (on : Bool) (s : State) : Host.Outcome State Fault Refusal :=
  .next (s.mapBlock (Block.selectChannel 0 on))

/-- CW.CH1: `T.active[1] <- on`, and `T.value[1] <- 0` if `on` is 0 (R44, R58). -/
def execCwCh1 (on : Bool) (s : State) : Host.Outcome State Fault Refusal :=
  .next (s.mapBlock (Block.selectChannel 1 on))

/-- CW.CH2: `T.active[2] <- on`, and `T.value[2] <- 0` if `on` is 0 (R44, R58). -/
def execCwCh2 (on : Bool) (s : State) : Host.Outcome State Fault Refusal :=
  .next (s.mapBlock (Block.selectChannel 2 on))

/-- CW.CH3: `T.active[3] <- on`, and `T.value[3] <- 0` if `on` is 0 (R44, R58). -/
def execCwCh3 (on : Bool) (s : State) : Host.Outcome State Fault Refusal :=
  .next (s.mapBlock (Block.selectChannel 3 on))

/-- CW.CH4: `T.active[4] <- on`, and `T.value[4] <- 0` if `on` is 0 (R44, R58). -/
def execCwCh4 (on : Bool) (s : State) : Host.Outcome State Fault Refusal :=
  .next (s.mapBlock (Block.selectChannel 4 on))

/-- CW.CH5: `T.active[5] <- on`, and `T.value[5] <- 0` if `on` is 0 (R44, R58). -/
def execCwCh5 (on : Bool) (s : State) : Host.Outcome State Fault Refusal :=
  .next (s.mapBlock (Block.selectChannel 5 on))

end Sys2Proof.Machine
end

