-- ==== Sys2Proof/Machine/Packer.lean ====
section
/-! DEFINITION. The meanings of PHASE_A, PHASE_B and PACK (spec/42_packer.md). -/

namespace Sys2Proof.Machine

/-- PHASE_A (R75): "requires phase = A"; the bytes it writes lie in the buffer (R27). -/
def execPhaseA (v : Word12) (s : State) : Host.Outcome State Fault Refusal :=
  if s.block.phase ≠ .A then .refused .packerPhase
  else if s.block.phaseFits then .next (s.mapBlock (Block.phaseA v))
  else .refused .packerBounds

/-- PHASE_B (R76): "requires phase = B"; the bytes it writes lie in the buffer (R27). -/
def execPhaseB (v : Word12) (s : State) : Host.Outcome State Fault Refusal :=
  if s.block.phase ≠ .B then .refused .packerPhase
  else if s.block.phaseFits then .next (s.mapBlock (Block.phaseB v))
  else .refused .packerBounds

/-- PACK (R77). -/
def execPack (s : State) : Host.Outcome State Fault Refusal :=
  .next (s.mapBlock Block.pack)

end Sys2Proof.Machine
end

