-- ==== Sys2Proof/Machine/Table.lean ====
section
/-! DEFINITION. The meaning of ACQUIRE (spec/41_activation_table.md). -/

namespace Sys2Proof.Machine

/-- ACQUIRE (R68). -/
def execAcquire (samples : Samples) (s : State) : Host.Outcome State Fault Refusal :=
  .next (s.mapBlock (Block.acquire samples))

end Sys2Proof.Machine
end

