-- ==== Sys2Proof/Machine/Tick.lean ====
section
/-! DEFINITION. The meanings of EMIT, TICK and RESET (spec/43_tick_and_dispatch.md, spec/70_reset_and_hazards.md). -/

namespace Sys2Proof.Machine

/-- EMIT (R92). -/
def execEmit (s : State) : Host.Outcome State Fault Refusal :=
  .next s.emitFrame

/-- The decodes of a tick, wired before wireless (R37, R88). -/
def decodeWords (cwWired cwWireless : Option Word16) (b : Block) : Block :=
  (b.decodeOption cwWired).decodeOption cwWireless

/-- ACQUIRE, PACK and EMIT, in this order (R88). -/
def State.sampleAndSend (samples : Samples) (s : State) : State :=
  (s.mapBlock fun b => (b.acquire samples).pack).emitFrame

/-- A tick that completes: the decodes first, or after EMIT where `DECODE_FIRST` is false (R88). -/
def State.tick (cwWired cwWireless : Option Word16) (samples : Samples) (s : State) : State :=
  if s.params.decodeFirst then
    (s.mapBlock (decodeWords cwWired cwWireless)).sampleAndSend samples
  else
    (s.sampleAndSend samples).mapBlock (decodeWords cwWired cwWireless)

/-- TICK (R88). Where a collaborator does not answer it has no step: the block is halted for good (R98). -/
def execTick (cwWired cwWireless : Option Word16) (samples : Samples) (s : State) :
    Host.Outcome State Fault Refusal :=
  match s.collab.missing with
  | none => .next (s.tick cwWired cwWireless samples)
  | some c => .fault (.tickHalted c)

/-- RESET (R110): the block's elements; it emits nothing. -/
def execReset (s : State) : Host.Outcome State Fault Refusal :=
  .next { s with block := Block.afterReset s.params.resetWord }

end Sys2Proof.Machine
end

