-- ==== Sys2Proof/Machine/Dispatch.lean ====
section
/-! DEFINITION. One arm per constructor of Instr. -/

namespace Sys2Proof.Machine

def exec (i : Instr) (s : State) : Host.Outcome State Fault Refusal :=
  match i with
  | .reset => Sys2Proof.Machine.execReset s
  | .tick cwWired cwWireless samples => Sys2Proof.Machine.execTick cwWired cwWireless samples s
  | .decode w => Sys2Proof.Machine.execDecode w s
  | .acquire samples => Sys2Proof.Machine.execAcquire samples s
  | .pack => Sys2Proof.Machine.execPack s
  | .phaseA v => Sys2Proof.Machine.execPhaseA v s
  | .phaseB v => Sys2Proof.Machine.execPhaseB v s
  | .emit => Sys2Proof.Machine.execEmit s
  | .cwRun0 => Sys2Proof.Machine.execCwRun0 s
  | .cwRun1 => Sys2Proof.Machine.execCwRun1 s
  | .cwMode0 => Sys2Proof.Machine.execCwMode0 s
  | .cwMode1 => Sys2Proof.Machine.execCwMode1 s
  | .cwMode2 => Sys2Proof.Machine.execCwMode2 s
  | .cwMode3 => Sys2Proof.Machine.execCwMode3 s
  | .cwRate0 => Sys2Proof.Machine.execCwRate0 s
  | .cwRate1 => Sys2Proof.Machine.execCwRate1 s
  | .cwRate2 => Sys2Proof.Machine.execCwRate2 s
  | .cwRate3 => Sys2Proof.Machine.execCwRate3 s
  | .cwCh0 on => Sys2Proof.Machine.execCwCh0 on s
  | .cwCh1 on => Sys2Proof.Machine.execCwCh1 on s
  | .cwCh2 on => Sys2Proof.Machine.execCwCh2 on s
  | .cwCh3 on => Sys2Proof.Machine.execCwCh3 on s
  | .cwCh4 on => Sys2Proof.Machine.execCwCh4 on s
  | .cwCh5 on => Sys2Proof.Machine.execCwCh5 on s

end Sys2Proof.Machine
end

