-- ==== Sys2Proof/Machine/Step.lean ====
section
/-! DEFINITION. One step per event (R87): the next event is decoded and its instruction run. -/

namespace Sys2Proof.Machine

/-- One step. Where nothing has arrived the block "waits for the next event" (R110) and the state is as it was. -/
def step (s : State) : Host.Outcome State Fault Refusal :=
  match s.fetch with
  | none => .next s
  | some (e, s') =>
    match decode (.event e) with
    | .ok i => exec i s'
    | .error (.reservedEvent ev) => .refused (.reservedEvent ev)

/-- `s` with the event of an opcode-table word first in the inbox, every collaborator answering: an EVENT row's own
event; for a control word the tick that applies it (R87). An INTERNAL row has no bits and places nothing. -/
def State.withFetchWord (s : State) (nbits w : Nat) : State :=
  match tableTransaction nbits w with
  | none => s
  | some t => { s with inbox := ⟨t.asEvent, Collaborators.answering⟩ :: s.inbox }

end Sys2Proof.Machine
end

