-- ==== Sys2Proof/Machine/Outputs.lean ====
section
/-! DEFINITION. The output ports of R25, read from the state (R93), and the byte stream of a transport. Every port is
read from the state after the tick. With `DECODE_FIRST` false that is after the late decodes, so all but `frameOut` can
differ from the configuration and the mask of that tick's frame and EMIT: DESIGN CHOICE, log entry 16. -/

namespace Sys2Proof.Machine

/-- `rateHz = RATE_HZ[cfg.rateCode]` (R59), after a late decode too (DESIGN CHOICE, log entry 16). -/
def State.rateHz (s : State) : Nat := s.params.rateHz[s.block.cfg.rateCode.toNat]'s.block.cfg.rateCode.isLt

/-- `emitValid = cfg.runState` (R93). DESIGN CHOICE (log entry 16): with `DECODE_FIRST` false it is that of the late
decodes, and need not say whether this tick's EMIT wrote the frame. -/
def State.emitValid (s : State) : Bool := s.block.cfg.runState

/-- `emitSel` (R91, R93). DESIGN CHOICE (log entry 16): with `DECODE_FIRST` false it is that of the late decodes, and
need not be the transport this tick's EMIT wrote to. -/
def State.emitSel (s : State) : Transport := transportOf s.block.cfg.transportMode

/-- `frameOut = buf[0 .. frameLen-1]` (R93). -/
def State.frameOut (s : State) : List Byte := s.block.frameBytes

/-- `activeMask` (R72). DESIGN CHOICE (log entry 16): with `DECODE_FIRST` false it is that of the late decodes, and need
not be the mask this tick's frame was packed with. -/
def State.activeMask (s : State) : BitVec 6 := s.block.activeMask

/-- `activeCount` (R72). DESIGN CHOICE (log entry 16): with `DECODE_FIRST` false it is that of the late decodes, as
`activeMask`. -/
def State.activeCount (s : State) : Nat := s.block.activeCount

/-- The byte stream of a transport: "the concatenation, in tick order, of the byte lists emitted to it" (R93). -/
def State.stream (s : State) (t : Transport) : List Byte :=
  (s.emitted.filter (·.sel = t)).flatMap (·.bytes)

end Sys2Proof.Machine
end

