-- ==== Sys2Proof/Machine/Run.lean ====
section
/-! DEFINITION. Instructions run one after another, for the rules that compose operations (R55, R63, R88). -/

namespace Sys2Proof.Machine

/-- Run instructions in order; the first fault or refusal ends the run. -/
def execAll : List Instr → State → Host.Outcome State Fault Refusal
  | [], s => .next s
  | i :: rest, s =>
    match exec i s with
    | .next t => execAll rest t
    | .fault f => .fault f
    | .refused r => .refused r

/-- DECODE of each word that is present (R66). -/
def decodeInstrs (cwWired cwWireless : Option Word16) : List Instr :=
  (cwWired.toList ++ cwWireless.toList).map Instr.decode

end Sys2Proof.Machine
end

