-- ==== Sys2Proof/Machine/Text.lean ====
section
/-! DEFINITION. The input text upstream of the block (R53, R115): decimal ASCII digits ended by a byte that is no digit.
The parser is outside the block (R5); no step calls it. -/

namespace Sys2Proof.Machine

/-- `0x30 .. 0x39` (R53, from general knowledge there). -/
def isDigit (c : Byte) : Bool := decide (0x30 ≤ c.toNat ∧ c.toNat ≤ 0x39)

/-- `N = Σ (d_m - 0x30) · 10^(n-m)` (R53). -/
def digitsValue (ds : List Byte) : Nat := ds.foldl (fun n d => 10 * n + (d.toNat - 0x30)) 0

/-- The word of a complete digit string: its value up to 65535, else the open `PARSE_TO_WORD` (R53, D16). -/
def wordOfDigits (ds : List Byte) : Option Word16 :=
  if ds ≠ [] ∧ digitsValue ds ≤ 65535 then some (BitVec.ofNat 16 (digitsValue ds))
  else Config.parseToWord ds

/-- The first number of a text and the text after the byte that ends it; none while no such byte has arrived (R53,
R115: a partial word is not delivered). -/
def completeNumber (text : List Byte) : Option (List Byte × List Byte) :=
  match text.dropWhile isDigit with
  | [] => none
  | _ :: rest => some (text.takeWhile isDigit, rest)

/-- The word a transport delivers for this tick, if any, and the text that is left (R53, R66, R115). Where more than one
complete number waits, the first is this tick's and the text after it is kept (DESIGN CHOICE, log entry 18: no source
says what becomes of a further word, N16). -/
def deliverWord (text : List Byte) : Option Word16 × List Byte :=
  match completeNumber text with
  | none => (none, text)
  | some (ds, rest) => (wordOfDigits ds, rest)

end Sys2Proof.Machine
end

