-- ==== Sys2Proof/Machine/Trace.lean ====
section
/-! DEFINITION. The lines of the trace syntax (R54) as data: what each stands for, not how it is spelt. -/

namespace Sys2Proof.Machine

/-- `<word>` of R54. -/
inductive WordForm where
  /-- `0xHHHH` or decimal -/
  | value (w : Word16)
  /-- E3K's grouped binary form `0bR_MM_CC_AAAAAA_xxxxx` -/
  | grouped (r : BitVec 1) (m c : BitVec 2) (a : BitVec 6) (x : BitVec 5)
  /-- the pseudo-form `cw(run, mode, rate, mask)` -/
  | fields (run : Bool) (mode rate : BitVec 2) (mask : BitVec 6)
deriving DecidableEq, Repr

/-- The 16-bit value of a `<word>` (R49, R54). -/
def WordForm.word : WordForm → Word16
  | .value w => w
  | .grouped r m c a x => r ++ m ++ c ++ a ++ x
  | .fields run mode rate mask => cw run mode rate mask

/-- One event a line; an omitted word means `-`, no word (R54). -/
inductive TraceLine where
  | reset
  | tick (wired wireless : Option WordForm) (samples : Samples)
deriving DecidableEq, Repr

/-- The instruction of a line (R54). -/
def TraceLine.instr : TraceLine → Instr
  | .reset => .reset
  | .tick wired wireless samples => .tick (wired.map WordForm.word) (wireless.map WordForm.word) samples

end Sys2Proof.Machine
end

