-- ==== Sys2Proof/Machine/Unpack.lean ====
section
/-! DEFINITION. The reference unpacker of R86, the test side's: "It is not hardware of the block." -/

namespace Sys2Proof.Machine

/-- Twelve bits, most significant first, as a sample. A bit that is not there reads 0 (DESIGN CHOICE, log entry 17: R86
gives `bytes[...]` no value past the list). -/
def sampleOfBits (bits : List Bool) : Word12 := BitVec.ofFnBE fun n : Fin 12 => bits.getD n false

/-- The channels of a mask, channel 0 its most significant bit, ascending (R86). -/
def maskChannels (mask : BitVec 6) : List (Fin 6) :=
  (List.finRange 6).filter fun i => mask.getLsbD (5 - i.val)

/-- UNPACK (R86): the channels of the mask, each with its twelve bits of the frame's bit string. Bytes that a list
shorter than `frameLength(popcount(mask))` lacks count as 0 bits (DESIGN CHOICE, log entry 17). -/
def unpack (bytes : List Byte) (mask : BitVec 6) : List (Fin 6 × Word12) :=
  let bits := (bytes.take (frameLength (popcount mask))).flatMap byteBits
  (maskChannels mask).mapIdx fun j c => (c, sampleOfBits ((bits.drop (12 * j)).take 12))

end Sys2Proof.Machine
end

