-- ==== Sys2Proof/Safety.lean ====
section
/-! DEFINITION. What a safe state and a safe run are, in the terms the statements use. -/

namespace Sys2Proof.Machine

/-- R17: an inactive channel's value is 0. -/
abbrev Block.TableInv (b : Block) : Prop :=
  ∀ i : Fin 6, b.table[i].active = false → b.table[i].value = 0

/-- R23: the bytes past the frame are 0. -/
abbrev Block.TrailingZero (b : Block) : Prop :=
  ∀ j : Fin 9, b.frameLen.val ≤ j.val → b.buf[j] = 0

/-- R77, R80: the frame is the cursor's bytes and the pending one. -/
abbrev Block.FrameClosed (b : Block) : Prop :=
  b.frameLen.val = b.cursor.val + (if b.phase = .B then 1 else 0)

/-- The invariant of a run: R17, R23 and R80 between the steps. -/
abbrev State.Inv (s : State) : Prop :=
  s.block.TableInv ∧ s.block.TrailingZero ∧ s.block.FrameClosed

/-- The environment keeps its duties for everything that waits: each event decodes (R52), and every collaborator
answers while it is handled (R95, R112 (3)). -/
abbrev State.Served (s : State) : Prop :=
  ∀ a ∈ s.inbox, a.answers.missing = none ∧ ∃ i, decode (.event a.event) = .ok i

/-- A run of `k` steps is safe: it stops nowhere and ends in a state with the invariant. -/
abbrev SafeRun (k : Nat) (s : State) : Prop :=
  ∃ t : State, Host.Core.run Sys2Proof.core k s = .next t ∧ t.Inv ∧ t.inbox = s.inbox.drop k

/-- Nothing around the block changes: parameters, collaborators, inbox, emissions. -/
abbrev SameSurroundings (s t : State) : Prop :=
  t.params = s.params ∧ t.collab = s.collab ∧ t.inbox = s.inbox ∧ t.emitted = s.emitted

/-- Every byte of the frame buffer and the packer's registers unchanged. -/
abbrev SameFrame (b c : Block) : Prop :=
  (∀ j : Nat, c.readByte j = b.readByte j) ∧ c.buf = b.buf ∧ c.frameLen = b.frameLen ∧ c.cursor = b.cursor
    ∧ c.phase = b.phase

/-- Only channel `i`'s entry is written: its flag is `on`, its value cleared where `on` is 0 and kept otherwise. -/
abbrev SelectsOnly (i : Fin 6) (on : Bool) (s t : State) : Prop :=
  t.block.table[i].active = on
    ∧ t.block.table[i].value = (if on then s.block.table[i].value else 0)
    ∧ (∀ j : Fin 6, j ≠ i → t.block.table[j] = s.block.table[j])
    ∧ t.block.cfg = s.block.cfg ∧ SameFrame s.block t.block ∧ SameSurroundings s t

/-- The configuration and the flags are those of the word `w` (R43, R44). -/
abbrev Block.ConfiguredBy (w : Word16) (b : Block) : Prop :=
  b.cfg.runState = w.getLsbD 15 ∧ b.cfg.transportMode = w.extractLsb' 13 2 ∧ b.cfg.rateCode = w.extractLsb' 11 2
    ∧ ∀ i : Fin 6, b.table[i].active = w.getLsbD (10 - i.val)

end Sys2Proof.Machine
end

