-- ==== Sys2Proof/Certificates/Slice0/Obligations.lean ====
section
/-! DEFINITION. The statements for the provers. Each docstring names the rules of spec/ it formalises; "derived" marks a
statement that rests on the spec's own decisions (spec/92_eei_decisions.md) or on a log entry of the model. -/

open Sys2Proof Sys2Proof.Machine

/-! ### DECODE and the field rows -/

/-- R56, R57, R58: what DECODE writes, for every word and state, and its frame. -/
def Obligations.DecodeWritesConfigurationAndTable : Prop :=
  ∀ (s : State) (w : Word16), ∃ t : State, exec (.decode w) s = .next t
    ∧ t.block.ConfiguredBy w
    ∧ (∀ i : Fin 6, t.block.table[i].value = if w.getLsbD (10 - i.val) then s.block.table[i].value else 0)
    ∧ SameFrame s.block t.block ∧ SameSurroundings s t

/-- R62: DECODE is idempotent. -/
def Obligations.DecodeIsIdempotent : Prop :=
  ∀ (s : State) (w : Word16), ∃ t : State, exec (.decode w) s = .next t ∧ exec (.decode w) t = .next t

/-- R47: bits 4..0 are ignored. -/
def Obligations.DecodeIgnoresUnusedBits : Prop :=
  ∀ (s : State) (w w' : Word16), (∀ n, 5 ≤ n → w.getLsbD n = w'.getLsbD n) → exec (.decode w) s = exec (.decode w') s

/-- R61 (derived there): of the table's old content, DECODE's result depends on the values of the channels the word
selects and on nothing else, and of the old configuration on nothing. -/
def Obligations.DecodeDependsOnlyOnKeptValues : Prop :=
  ∀ (s s' : State) (w : Word16),
    (∀ i : Fin 6, w.getLsbD (10 - i.val) = true → s.block.table[i].value = s'.block.table[i].value) →
    s.block.buf = s'.block.buf → s.block.frameLen = s'.block.frameLen → s.block.cursor = s'.block.cursor →
    s.block.phase = s'.block.phase → SameSurroundings s s' →
    ∃ t : State, exec (.decode w) s = .next t ∧ exec (.decode w) s' = .next t

/-- R63 (derived there): two decodes in sequence. -/
def Obligations.SecondDecodeConfiguresBothClear : Prop :=
  ∀ (s : State) (w1 w2 : Word16), ∃ t : State, execAll [.decode w1, .decode w2] s = .next t
    ∧ t.block.ConfiguredBy w2
    ∧ (∀ i : Fin 6, t.block.table[i].value =
        if w1.getLsbD (10 - i.val) && w2.getLsbD (10 - i.val) then s.block.table[i].value else 0)
    ∧ SameFrame s.block t.block ∧ SameSurroundings s t

/-- A word's field rows, run one after another, are DECODE of the word (R56). The model's choice, log entry 11: R55 gives
the rows no operation of their own, and R32 writes all the fields in one step. -/
def Obligations.FieldRowsComposeToDecode : Prop :=
  ∀ (s : State) (w : Word16), execAll (fieldRows w) s = exec (.decode w) s

/-- R55: every word matches exactly one row of each of the run, mode and rate groups. That it matches one row of each
channel is the model's choice, log entry 11: R55's CW.CH row matches only where its bit is 1, and the model adds the
row for bit 0. -/
def Obligations.EveryWordMatchesOneRowPerField : Prop :=
  ∀ w : Word16, (runRows.filter (·.isMatch w)).length = 1 ∧ (modeRows.filter (·.isMatch w)).length = 1
    ∧ (rateRows.filter (·.isMatch w)).length = 1
    ∧ (channelRows.filter (·.isMatch w)).map (·.instr)
      = [.cwCh0 (w.getLsbD 10), .cwCh1 (w.getLsbD 9), .cwCh2 (w.getLsbD 8), .cwCh3 (w.getLsbD 7),
         .cwCh4 (w.getLsbD 6), .cwCh5 (w.getLsbD 5)]

/-- CW.RUN0 and CW.RUN1 write what DECODE writes from bit 15 (R42, R57) and nothing else. That a row is an instruction
of its own is the model's choice, log entry 11. -/
def Obligations.RunRowsWriteRunState : Prop :=
  ∀ s : State,
    exec .cwRun0 s = .next { s with block := { s.block with cfg := { s.block.cfg with runState := false } } }
    ∧ exec .cwRun1 s = .next { s with block := { s.block with cfg := { s.block.cfg with runState := true } } }

/-- CW.MODE0 to CW.MODE3 store the raw two bits, as DECODE does (R45, R57), and change nothing else. That a row is an
instruction of its own is the model's choice, log entry 11. -/
def Obligations.ModeRowsStoreRawMode : Prop :=
  ∀ s : State,
    exec .cwMode0 s = .next { s with block := { s.block with cfg := { s.block.cfg with transportMode := 0 } } }
    ∧ exec .cwMode1 s = .next { s with block := { s.block with cfg := { s.block.cfg with transportMode := 1 } } }
    ∧ exec .cwMode2 s = .next { s with block := { s.block with cfg := { s.block.cfg with transportMode := 2 } } }
    ∧ exec .cwMode3 s = .next { s with block := { s.block with cfg := { s.block.cfg with transportMode := 3 } } }

/-- CW.RATE0 to CW.RATE3 write `cfg.rateCode`, as DECODE does (R46, R57), and nothing else. That a row is an
instruction of its own is the model's choice, log entry 11. -/
def Obligations.RateRowsWriteRateCode : Prop :=
  ∀ s : State,
    exec .cwRate0 s = .next { s with block := { s.block with cfg := { s.block.cfg with rateCode := 0 } } }
    ∧ exec .cwRate1 s = .next { s with block := { s.block with cfg := { s.block.cfg with rateCode := 1 } } }
    ∧ exec .cwRate2 s = .next { s with block := { s.block with cfg := { s.block.cfg with rateCode := 2 } } }
    ∧ exec .cwRate3 s = .next { s with block := { s.block with cfg := { s.block.cfg with rateCode := 3 } } }

/-- Each of CW.CH0 to CW.CH5 writes its own channel's entry as DECODE does from its bit (R44, R58) and nothing else.
That a row is an instruction of its own and carries its bit is the model's choice, log entry 11. -/
def Obligations.ChannelRowsSelectOneChannel : Prop :=
  ∀ (s : State) (on : Bool),
    (∃ t : State, exec (.cwCh0 on) s = .next t ∧ SelectsOnly 0 on s t)
    ∧ (∃ t : State, exec (.cwCh1 on) s = .next t ∧ SelectsOnly 1 on s t)
    ∧ (∃ t : State, exec (.cwCh2 on) s = .next t ∧ SelectsOnly 2 on s t)
    ∧ (∃ t : State, exec (.cwCh3 on) s = .next t ∧ SelectsOnly 3 on s t)
    ∧ (∃ t : State, exec (.cwCh4 on) s = .next t ∧ SelectsOnly 4 on s t)
    ∧ (∃ t : State, exec (.cwCh5 on) s = .next t ∧ SelectsOnly 5 on s t)

/-- R44, R22: after DECODE the mask port reads the word's mask field, channel `i` at its bit `5 - i`. -/
def Obligations.DecodedMaskReadsBack : Prop :=
  ∀ (s : State) (w : Word16), ∃ t : State, exec (.decode w) s = .next t
    ∧ t.activeMask = w.extractLsb' 5 6
    ∧ ∀ i : Fin 6, t.block.table[i].active = w.getLsbD (10 - i.val)
      ∧ t.block.table[i].active = (w.extractLsb' 5 6).getLsbD (5 - i.val)

/-- R46: after DECODE the rate port is the table's entry at the word's rate code; E3K's four rates by default. -/
def Obligations.DecodedRateIndexesTable : Prop :=
  ∀ (s : State) (w : Word16), ∃ t : State, exec (.decode w) s = .next t
    ∧ (∀ c : Fin 4, (w.extractLsb' 11 2).toNat = c.val → t.rateHz = s.params.rateHz[c])
    ∧ (s.params.rateHz = Config.defaults.rateHz →
        ((w.extractLsb' 11 2 = 0 → t.rateHz = 10) ∧ (w.extractLsb' 11 2 = 1 → t.rateHz = 100)
          ∧ (w.extractLsb' 11 2 = 2 → t.rateHz = 500) ∧ (w.extractLsb' 11 2 = 3 → t.rateHz = 1000)))

/-! ### ACQUIRE -/

/-- R68, R69: ACQUIRE loads the low 12 bits of its sample into every active entry and changes nothing else. -/
def Obligations.AcquireLoadsActiveChannels : Prop :=
  ∀ (s : State) (samples : Samples), ∃ t : State, exec (.acquire samples) s = .next t
    ∧ (∀ i : Fin 6, s.block.table[i].active = true →
        t.block.table[i].active = true ∧ t.block.table[i].value.toNat = samples[i] % 4096)
    ∧ (∀ i : Fin 6, s.block.table[i].active = false → t.block.table[i] = s.block.table[i])
    ∧ t.block.cfg = s.block.cfg ∧ SameFrame s.block t.block ∧ SameSurroundings s t

/-- R73 (b) (derived there): ACQUIRE is idempotent for the same samples. -/
def Obligations.AcquireIsIdempotent : Prop :=
  ∀ (s : State) (samples : Samples), ∃ t : State,
    exec (.acquire samples) s = .next t ∧ exec (.acquire samples) t = .next t

/-- R67, R68: samples of inactive channels, and bits above bit 11, never reach the state. -/
def Obligations.AcquireDiscardsInactiveSamples : Prop :=
  ∀ (s : State) (a b : Samples),
    (∀ i : Fin 6, s.block.table[i].active = true → a[i] % 4096 = b[i] % 4096) →
    ∃ t : State, exec (.acquire a) s = .next t ∧ exec (.acquire b) s = .next t

/-- R18, R73 (d) (derived there): `activeCount` counts `activeList(T)`, and lies in 0..6. -/
def Obligations.ActiveCountCountsActiveList : Prop :=
  ∀ s : State, s.activeCount = s.block.activeList.length ∧ s.activeCount ≤ 6
    ∧ s.block.activeList.map Prod.fst = (List.finRange 6).filter (fun i => s.block.table[i].active)
    ∧ ∀ p ∈ s.block.activeList, s.block.table[p.1].active = true ∧ p.2 = s.block.table[p.1].value

/-! ### PHASE_A, PHASE_B and PACK -/

/-- R75's effect of PHASE_A and its frame, wherever it is in phase A and its two bytes lie in the buffer (derived: R75
runs it at cursors 0, 3 and 6 only; that it completes at the other cursors up to 7 is log entry 6). -/
def Obligations.PhaseAWritesByteAndHighNibble : Prop :=
  ∀ (s : State) (v : Word12), s.block.phase = .A → s.block.cursor.val ≤ 7 →
    ∃ t : State, exec (.phaseA v) s = .next t
      ∧ t.block.readByte s.block.cursor = v.extractLsb' 4 8
      ∧ (t.block.readByte (s.block.cursor + 1)).extractLsb' 4 4 = v.extractLsb' 0 4
      ∧ (t.block.readByte (s.block.cursor + 1)).extractLsb' 0 4
        = (s.block.readByte (s.block.cursor + 1)).extractLsb' 0 4
      ∧ (∀ j : Nat, j ≠ s.block.cursor.val → j ≠ s.block.cursor.val + 1 → t.block.readByte j = s.block.readByte j)
      ∧ t.block.cursor.val = s.block.cursor.val + 1 ∧ t.block.phase = .B
      ∧ t.block.frameLen = s.block.frameLen ∧ t.block.cfg = s.block.cfg ∧ t.block.table = s.block.table
      ∧ SameSurroundings s t

/-- R76's effect of PHASE_B and its frame, wherever it is in phase B and its two bytes lie in the buffer (derived: R76
runs it at cursors 1, 4 and 7 only; that it completes at the other cursors up to 7 is log entry 6). -/
def Obligations.PhaseBWritesLowNibbleAndByte : Prop :=
  ∀ (s : State) (v : Word12), s.block.phase = .B → s.block.cursor.val ≤ 7 →
    ∃ t : State, exec (.phaseB v) s = .next t
      ∧ (t.block.readByte s.block.cursor).extractLsb' 0 4 = v.extractLsb' 8 4
      ∧ (t.block.readByte s.block.cursor).extractLsb' 4 4 = (s.block.readByte s.block.cursor).extractLsb' 4 4
      ∧ t.block.readByte (s.block.cursor + 1) = v.extractLsb' 0 8
      ∧ (∀ j : Nat, j ≠ s.block.cursor.val → j ≠ s.block.cursor.val + 1 → t.block.readByte j = s.block.readByte j)
      ∧ t.block.cursor.val = s.block.cursor.val + 2 ∧ t.block.phase = .A
      ∧ t.block.frameLen = s.block.frameLen ∧ t.block.cfg = s.block.cfg ∧ t.block.table = s.block.table
      ∧ SameSurroundings s t

/-- Where a phase has no meaning (derived; log entry 6, from R75 and R76's "requires phase" and R27). -/
def Obligations.PhasesStopOutsideTheirPhase : Prop :=
  ∀ (s : State) (v : Word12),
    (s.block.phase = .B → exec (.phaseA v) s = .refused .packerPhase)
    ∧ (s.block.phase = .A → exec (.phaseB v) s = .refused .packerPhase)
    ∧ (s.block.phase = .A → 8 ≤ s.block.cursor.val → exec (.phaseA v) s = .refused .packerBounds)
    ∧ (s.block.phase = .B → 8 ≤ s.block.cursor.val → exec (.phaseB v) s = .refused .packerBounds)

/-- R82 (derived there), R28, R50: the frame is the bit string of the active samples and the padding nibble; the rest of
the buffer is 0; PACK changes nothing else. -/
def Obligations.PackedFrameIsBitString : Prop :=
  ∀ s : State, ∃ t : State, exec .pack s = .next t
    ∧ t.frameOut.flatMap byteBits
      = s.block.activeValues.flatMap sampleBits
        ++ (if s.activeCount % 2 = 1 then [false, false, false, false] else [])
    ∧ (∀ j : Fin 9, t.block.frameLen.val ≤ j.val → t.block.buf[j] = 0)
    ∧ t.block.cfg = s.block.cfg ∧ t.block.table = s.block.table ∧ SameSurroundings s t

/-- R29: where the sample at each position of the active order stands. -/
def Obligations.PackPlacesSamplesByPosition : Prop :=
  ∀ s : State, ∃ t : State, exec .pack s = .next t ∧ ∀ (j : Nat) (v : Word12), s.block.activeValues[j]? = some v →
    (j % 2 = 0 → t.block.readByte (3 * (j / 2)) = v.extractLsb' 4 8
      ∧ (t.block.readByte (3 * (j / 2) + 1)).extractLsb' 4 4 = v.extractLsb' 0 4)
    ∧ (j % 2 = 1 → (t.block.readByte (3 * (j / 2) + 1)).extractLsb' 0 4 = v.extractLsb' 8 4
      ∧ t.block.readByte (3 * (j / 2) + 2) = v.extractLsb' 0 8)

/-- R80, R74: cursor, phase and frame length after a pass over `k` active channels. -/
def Obligations.PackLeavesCursorPhaseLength : Prop :=
  ∀ s : State, ∃ t : State, exec .pack s = .next t
    ∧ t.block.cursor.val = 3 * (s.activeCount / 2) + s.activeCount % 2
    ∧ (t.block.phase = .A ↔ s.activeCount % 2 = 0)
    ∧ t.block.cursor.val + (if t.block.phase = .B then 1 else 0) = frameLength s.activeCount
    ∧ t.block.frameLen.val = (3 * s.activeCount + 1) / 2
    ∧ [0, 1, 2, 3, 4, 5, 6].map frameLength = [0, 2, 3, 5, 6, 8, 9]

/-- R81: the padding is the low nibble of an odd frame's last byte, and nothing else. -/
def Obligations.OddFrameEndsInZeroNibble : Prop :=
  ∀ s : State, ∃ t : State, exec .pack s = .next t
    ∧ (s.activeCount % 2 = 1 → (t.block.readByte (t.block.frameLen.val - 1)).extractLsb' 0 4 = 0
      ∧ 8 * t.block.frameLen.val = 12 * s.activeCount + 4)
    ∧ (s.activeCount % 2 = 0 → 8 * t.block.frameLen.val = 12 * s.activeCount)

/-- R79, R84: the frame depends on the sequence of active values alone: not on the channels that hold them, and not on
what the buffer held. -/
def Obligations.PackDependsOnlyOnActiveValues : Prop :=
  ∀ s s' : State, s.block.activeValues = s'.block.activeValues →
    ∃ t t' : State, exec .pack s = .next t ∧ exec .pack s' = .next t'
      ∧ t.block.buf = t'.block.buf ∧ t.block.frameLen = t'.block.frameLen

/-- R85 (derived there): PACK is idempotent. -/
def Obligations.PackIsIdempotent : Prop :=
  ∀ s : State, ∃ t : State, exec .pack s = .next t ∧ exec .pack t = .next t

/-- R83: with no active channel the frame is empty, and EMIT hands it over while streaming is on. -/
def Obligations.NoActiveChannelGivesEmptyFrame : Prop :=
  ∀ s : State, s.activeCount = 0 → ∃ t u : State, exec .pack s = .next t ∧ exec .emit t = .next u
    ∧ t.block.frameLen.val = 0 ∧ (∀ j : Fin 9, t.block.buf[j] = 0)
    ∧ (s.block.cfg.runState = true → u.emitted = s.emitted ++ [⟨s.emitSel, []⟩])

/-- R86: unpacking a packed frame with the mask gives the active list back. -/
def Obligations.UnpackRestoresActiveList : Prop :=
  ∀ s : State, ∃ t : State, exec .pack s = .next t ∧ unpack t.frameOut s.activeMask = s.block.activeList

/-! ### EMIT, TICK and RESET -/

/-- R91, R92: EMIT in every mode, gated by `runState`; it writes nothing of the block. -/
def Obligations.EmitHandsFrameToSelectedTransport : Prop :=
  ∀ s : State, ∃ t : State, exec .emit s = .next t
    ∧ (s.block.cfg.runState = true → s.block.cfg.transportMode = 1 →
        t.emitted = s.emitted ++ [⟨.wireless, s.block.buf.toList.take s.block.frameLen.val⟩])
    ∧ (s.block.cfg.runState = true → s.block.cfg.transportMode ≠ 1 →
        t.emitted = s.emitted ++ [⟨.wired, s.block.buf.toList.take s.block.frameLen.val⟩])
    ∧ (s.block.cfg.runState = false → t.emitted = s.emitted)
    ∧ t.block = s.block ∧ t.params = s.params ∧ t.collab = s.collab ∧ t.inbox = s.inbox

/-- R93 (derived there): EMIT appends the frame to the selected transport's stream and leaves the other's. -/
def Obligations.EmitExtendsSelectedStreamOnly : Prop :=
  ∀ s : State, ∃ t : State, exec .emit s = .next t ∧ ∀ tr : Transport,
    t.stream tr = s.stream tr ++ (if s.emitValid ∧ s.emitSel = tr then s.frameOut else [])

/-- R88: a tick runs its operations in order, the decodes first or last as `DECODE_FIRST` says, where every collaborator
answers (derived: the default is the spec's own choice, D3, log entry 3; that ACQUIRE and PACK also run where `runState`
is 0 is D7, log entry 12). -/
def Obligations.TickRunsItsOperationsInOrder : Prop :=
  ∀ (s : State) (cwWired cwWireless : Option Word16) (samples : Samples), s.collab.missing = none →
    ∃ t : State, exec (.tick cwWired cwWireless samples) s = .next t
      ∧ (s.params.decodeFirst = true →
          execAll (decodeInstrs cwWired cwWireless ++ [.acquire samples, .pack, .emit]) s = .next t)
      ∧ (s.params.decodeFirst = false →
          execAll ([.acquire samples, .pack, .emit] ++ decodeInstrs cwWired cwWireless) s = .next t)

/-- R37, R69, R88, R91, R92, R93 over one whole tick with the default `DECODE_FIRST` (derived: D3, D7): the configuration
and the mask are the last word's, every active channel holds this tick's sample, the frame is those samples' bit string,
and it goes to the transport of the last word's mode exactly if streaming is on. -/
def Obligations.TickSendsFreshSamplesOfLastMask : Prop :=
  ∀ (s : State) (cwWired cwWireless : Option Word16) (samples : Samples),
    s.collab.missing = none → s.params.decodeFirst = true →
    ∃ t : State, exec (.tick cwWired cwWireless samples) s = .next t
      ∧ (∀ w, cwWireless.or cwWired = some w → t.block.ConfiguredBy w)
      ∧ (cwWireless.or cwWired = none → t.block.cfg = s.block.cfg
          ∧ ∀ i : Fin 6, t.block.table[i].active = s.block.table[i].active)
      ∧ (∀ i : Fin 6, t.block.table[i].active = true → t.block.table[i].value = BitVec.ofNat 12 samples[i])
      ∧ (∀ i : Fin 6, t.block.table[i].active = false →
          t.block.table[i].value = if (cwWireless.or cwWired).isSome then 0 else s.block.table[i].value)
      ∧ t.frameOut.flatMap byteBits
        = (((List.finRange 6).filter fun i => t.block.table[i].active).flatMap
            fun i => sampleBits (BitVec.ofNat 12 samples[i]))
          ++ (if t.activeCount % 2 = 1 then [false, false, false, false] else [])
      ∧ t.frameOut.length = frameLength t.activeCount
      ∧ (∀ j : Fin 9, t.block.frameLen.val ≤ j.val → t.block.buf[j] = 0)
      ∧ t.emitted = s.emitted ++ (if t.emitValid then [⟨t.emitSel, t.frameOut⟩] else [])
      ∧ t.params = s.params ∧ t.collab = s.collab ∧ t.inbox = s.inbox

/-- R37, R63, R69, R88 (derived): in a tick with two words the wired word leaves no trace where the decodes come first
(the default, D3, log entry 3), since ACQUIRE then loads every active channel, and only its staleness clearing where they
come last. Where the wireless word's `runState` is 0 this rests on ACQUIRE and PACK running while streaming is off: D7,
log entry 12. -/
def Obligations.WirelessWordOverridesWired : Prop :=
  ∀ (s : State) (w1 w2 : Word16) (samples : Samples), s.collab.missing = none →
    ∃ t u : State, exec (.tick (some w1) (some w2) samples) s = .next t
      ∧ exec (.tick none (some w2) samples) s = .next u
      ∧ (s.params.decodeFirst = true → t = u)
      ∧ (s.params.decodeFirst = false → t.emitted = u.emitted ∧ t.block.cfg = u.block.cfg ∧ SameFrame u.block t.block
          ∧ ∀ i : Fin 6, t.block.table[i].active = u.block.table[i].active
            ∧ t.block.table[i].value = if w1.getLsbD (10 - i.val) then u.block.table[i].value else 0)

/-- R65: a single word has the same effect from either transport. -/
def Obligations.WordSourceDoesNotMatter : Prop :=
  ∀ (s : State) (w : Word16) (samples : Samples), s.collab.missing = none →
    ∃ t : State, exec (.tick (some w) none samples) s = .next t ∧ exec (.tick none (some w) samples) s = .next t

/-- R98: where a collaborator does not answer TICK has no step, and a run that reaches it never leaves it (derived: that
all three count and which one the fault names is log entry 8). -/
def Obligations.UnansweredTickHaltsForGood : Prop :=
  ∀ (s : State) (cwWired cwWireless : Option Word16) (samples : Samples),
    s.collab.acquisition = false ∨ s.collab.wired = false ∨ s.collab.wireless = false →
    ∃ c, exec (.tick cwWired cwWireless samples) s = .fault (.tickHalted c)
      ∧ (c = .acquisition → s.collab.acquisition = false)
      ∧ (c = .transport .wired → s.collab.wired = false)
      ∧ (c = .transport .wireless → s.collab.wireless = false)
      ∧ ∀ (before : State) (e : Event), before.fetch = some (e, s) →
          decode (.event e) = .ok (.tick cwWired cwWireless samples) →
          ∀ k : Nat, Host.Core.run Sys2Proof.core (k + 1) before = .fault (Fault.tickHalted c)

/-- R26, R110: RESET for every `RESET_WORD`; with the default word the block is that of `State.reset` (derived: the
values are the spec's own choice, D4; that the emissions stay is log entry 5). -/
def Obligations.ResetPutsBlockInResetState : Prop :=
  ∀ s : State, ∃ t : State, exec .reset s = .next t
    ∧ t.block.ConfiguredBy s.params.resetWord
    ∧ (∀ i : Fin 6, t.block.table[i].value = 0) ∧ (∀ j : Fin 9, t.block.buf[j] = 0)
    ∧ t.block.frameLen = 0 ∧ t.block.cursor = 0 ∧ t.block.phase = .A
    ∧ (s.params.resetWord = Config.defaults.resetWord → t.block = State.reset.block)
    ∧ SameSurroundings s t

/-! ### The whole machine -/

/-- R17, R23, R80: the table invariant, the zero bytes past the frame, and the frame's length against the cursor are
kept by every step, from every state that has them. -/
def Obligations.EveryStepKeepsInvariant : Prop :=
  ∀ s t : State, s.Inv → step s = .next t → t.Inv

/-- R17, R111: the reset state has the invariant, and RESET gives it for every `RESET_WORD`. -/
def Obligations.ResetEstablishesInvariant : Prop :=
  State.reset.Inv ∧ ∀ s : State, ∃ t : State, exec .reset s = .next t ∧ t.Inv

/-- R20, R21: no operation but DECODE (and RESET, and the rows of DECODE) writes the configuration or a flag. -/
def Obligations.OnlyDecodeWritesConfigurationAndFlags : Prop :=
  ∀ (i : Instr) (s t : State), i.format = .internal ∨ (∃ samples, i = .tick none none samples) →
    exec i s = .next t →
    t.block.cfg = s.block.cfg ∧ (∀ c : Fin 6, t.block.table[c].active = s.block.table[c].active)
      ∧ t.activeMask = s.activeMask ∧ t.rateHz = s.rateHz

/-- R89 (derived there), R14: a step emits at most once and drops no emission, and never writes a parameter. The model's
choices: that RESET keeps the emission record is log entry 5; that a step takes the inbox's first event, or waits where
there is none, is log entry 7. -/
def Obligations.StepEmitsAtMostOnce : Prop :=
  ∀ s t : State, step s = .next t →
    (t.emitted = s.emitted ∨ ∃ e : Emission, t.emitted = s.emitted ++ [e])
    ∧ t.params = s.params ∧ t.inbox = s.inbox.tail

/-- R97, R98: an instruction stops nowhere but in a tick where a collaborator does not answer, and in a phase out of
turn or past the buffer. The model's choices: where a phase runs (its phase, a cursor up to 7) is log entry 6; that the
CW rows are instructions, and complete, is log entry 11. -/
def Obligations.ExecStopsOnlyWhereNamed : Prop :=
  ∀ (i : Instr) (s : State),
    (s.collab.missing = none ∨ ∀ a b c, i ≠ .tick a b c) →
    (∀ v, i = .phaseA v → s.block.phase = .A ∧ s.block.cursor.val ≤ 7) →
    (∀ v, i = .phaseB v → s.block.phase = .B ∧ s.block.cursor.val ≤ 7) →
    ∃ t : State, exec i s = .next t

/-- R60, R89, R97: a run over events that decode, every collaborator answering, never stops, and it keeps the invariant.
The model's choice, log entry 7: R87 has one step per event; a run longer than the inbox goes on because a step without
an arrival waits, and the inbox is the model's interface. -/
def Obligations.AnsweredRunsNeverStop : Prop :=
  ∀ (k : Nat) (s : State), s.Served → s.Inv → SafeRun k s

/-! ### Encodings and fetching -/

/-- R42, R52: an encoded well-formed instruction decodes to itself, with every operand. -/
def Obligations.DecodeOfEncodeIsInstruction : Prop :=
  ∀ (i : Instr) (tr : Transaction), i.wf = true → encode i = some tr → decode tr = .ok i

/-- R48, R52, R87: what decodes is well formed and is RESET, TICK or a control word's DECODE, and DECODE never comes from
an event; but for RESET, whose payload is not read, the transaction is its instruction's encoding. -/
def Obligations.DecodedTransactionIsItsEncoding : Prop :=
  ∀ (tr : Transaction) (i : Instr), decode tr = .ok i →
    i.wf = true ∧ (i = .reset ∨ encode i = some tr)
      ∧ (tr.isEvent = true → i = .reset ∨ ∃ a b c, i = .tick a b c)
      ∧ (tr.isEvent = false → ∃ w, i = .decode w)

/-- A field row's mask and match value give the row back, whatever the bits outside the mask (R55). The CW.CH rows with
match 0 are the model's choice, log entry 11: R55's have match = mask. -/
def Obligations.FieldRowDecodesUnderItsMask : Prop :=
  ∀ (i : Instr) (mask bits w : Word16), encodeField i = some (mask, bits) → w &&& mask = bits →
    decodeField mask w = some i

/-- R49: composition of a control word is the inverse of field extraction, the unused bits 0. -/
def Obligations.ComposedWordHasItsFields : Prop :=
  (∀ (run : Bool) (mode rate : BitVec 2) (mask : BitVec 6),
    (cw run mode rate mask).getLsbD 15 = run ∧ (cw run mode rate mask).extractLsb' 13 2 = mode
      ∧ (cw run mode rate mask).extractLsb' 11 2 = rate ∧ (cw run mode rate mask).extractLsb' 5 6 = mask
      ∧ (cw run mode rate mask).extractLsb' 0 5 = 0
      ∧ (cw run mode rate mask).toNat
        = run.toNat * 0x8000 + mode.toNat * 0x2000 + rate.toNat * 0x0800 + mask.toNat * 0x0020)
  ∧ ∀ w : Word16,
    cw (w.getLsbD 15) (w.extractLsb' 13 2) (w.extractLsb' 11 2) (w.extractLsb' 5 6) = w &&& 0xFFE0

/-- R52 (derived: the codes are the spec's own, D10): codes `10` and `11` are refused. -/
def Obligations.ReservedEventCodesAreRefused : Prop :=
  ∀ e : Event, e.ev = 0b10 ∨ e.ev = 0b11 →
    decode (.event e) = .error (.reservedEvent e.ev)
    ∧ ∀ (s : State) (c : Collaborators) (rest : List Arrival), s.inbox = ⟨e, c⟩ :: rest →
        step s = .refused (.reservedEvent e.ev)

/-- R87 (one step per event): a step decodes the next event, takes it off the inbox with the collaborators that answer
it, and is `exec` of its instruction there. That the events stand in an inbox is the model's choice, log entry 7. -/
def Obligations.StepRunsDecodedInstruction : Prop :=
  ∀ (s : State) (a : Arrival) (rest : List Arrival) (i : Instr), s.inbox = a :: rest →
    decode (.event a.event) = .ok i → step s = exec i { s with inbox := rest, collab := a.answers }

/-- R110 "it waits for the next event" (derived; log entry 7): with nothing arrived a step changes nothing. -/
def Obligations.StepWithoutArrivalWaits : Prop :=
  ∀ s : State, s.inbox = [] → step s = .next s

/-- A placed opcode-table word is what the next step runs, with every collaborator answering (the model's choice, log
entries 4 and 7): an EVENT row's instruction itself, and a control word in the tick that applies it (R66, R87). -/
def Obligations.PlacedWordRunsNext : Prop :=
  ∀ (s : State) (nbits w : Nat) (i : Instr), decodeTableWord nbits w = some i →
    (i.format = .event ∧ step (s.withFetchWord nbits w) = exec i { s with collab := Collaborators.answering })
      ∨ ∃ v, i = .decode v ∧ step (s.withFetchWord nbits w)
          = exec (.tick (some v) none (Vector.replicate 6 0)) { s with collab := Collaborators.answering }

/-- R42, R43, R44, R52: a few words, bit by bit. The model's choices: the rows of a channel whose bit is 0 are log entry
11; an event code as an 8-bit table word, its ports empty, is log entry 7. -/
def Obligations.WrittenOutWordsDecode : Prop :=
  decodeTableWord 8 0b00 = some .reset
  ∧ decodeTableWord 8 0b01 = some (.tick none none (Vector.replicate 6 0))
  ∧ decodeTableWord 16 0b1000111111100000 = some (.decode 0x8FE0)
  ∧ fieldRows 0b1010010000000000 = [.cwRun1, .cwMode1, .cwRate0, .cwCh0 true, .cwCh1 false, .cwCh2 false,
      .cwCh3 false, .cwCh4 false, .cwCh5 false]
  ∧ fieldRows 0b0111100101011111 = [.cwRun0, .cwMode3, .cwRate3, .cwCh0 false, .cwCh1 false, .cwCh2 true,
      .cwCh3 false, .cwCh4 true, .cwCh5 false]

/-! ### The input text -/

/-- R53: a digit string of value `N = Σ (d_m - 0x30) · 10^(n-m)` at most 65535, ended by a byte that is no digit,
delivers the word `N`. The digit bytes are R53's general-knowledge codes, PRESUMED in log entry 9, which also makes the
parser the model's choice; that the text after the word is kept, further complete words in it too, is log entry 18. -/
def Obligations.DigitsDeliverTheirValue : Prop :=
  ∀ (ds rest : List Byte) (e : Byte), ds ≠ [] → (∀ d ∈ ds, 0x30 ≤ d.toNat ∧ d.toNat ≤ 0x39) →
    ¬ (0x30 ≤ e.toNat ∧ e.toNat ≤ 0x39) → Nat.ofDigits 10 (ds.reverse.map fun d => d.toNat - 0x30) ≤ 65535 →
    ∃ w : Word16, deliverWord (ds ++ e :: rest) = (some w, rest)
      ∧ w.toNat = Nat.ofDigits 10 (ds.reverse.map fun d => d.toNat - 0x30)

/-- R115: digits whose terminator has not arrived deliver no word and stay (derived: the digit bytes `0x30 .. 0x39` are
R53's general-knowledge codes, PRESUMED in log entry 9, which also makes the parser the model's choice). -/
def Obligations.UnterminatedDigitsDeliverNothing : Prop :=
  ∀ ds : List Byte, (∀ d ∈ ds, 0x30 ≤ d.toNat ∧ d.toNat ≤ 0x39) → deliverWord ds = (none, ds)

/-! ### What a step can be -/

/-- R87, R100: a step is a RESET or a TICK of the next event's ports, by its code, and nothing else; without an event it
waits (log entry 7). A control word is never a step of its own. -/
def Obligations.EveryStepIsResetTickOrWait : Prop :=
  ∀ s t : State, step s = .next t →
    (s.inbox = [] ∧ t = s)
    ∨ ∃ (e : Event) (c : Collaborators) (rest : List Arrival), s.inbox = ⟨e, c⟩ :: rest
      ∧ ((e.ev = 0b00 ∧ exec .reset { s with inbox := rest, collab := c } = .next t)
        ∨ (e.ev = 0b01 ∧ exec (.tick e.cwWired e.cwWireless (Vector.ofFn fun i : Fin 6 => e.samples[i].toNat))
            { s with inbox := rest, collab := c } = .next t))

/-- R66, R100: outside RESET, a step changes the configuration or a flag only by a word on its event's own ports: where
both are empty there is no DECODE. With a word, the last one configures (R37). -/
def Obligations.WordsReachTheBlockOnlyInTicks : Prop :=
  ∀ s t : State, step s = .next t →
    ((∀ a ∈ s.inbox.head?, a.event.ev ≠ 0b00 ∧ a.event.cwWired = none ∧ a.event.cwWireless = none) →
      t.block.cfg = s.block.cfg ∧ ∀ i : Fin 6, t.block.table[i].active = s.block.table[i].active)
    ∧ ∀ a ∈ s.inbox.head?, a.event.ev ≠ 0b00 → ∀ w, a.event.cwWireless.or a.event.cwWired = some w →
      t.block.ConfiguredBy w
end

