-- ==== Sys2Proof/Laws/State.lean ====
section
/-! SUPPORT. One lemma per field per update of the block and of the state around it, each true by rfl. -/

namespace Sys2Proof.Machine

/-! ### Configuration and table -/

@[simp] theorem Block.setRunState_cfg (run : Bool) (b : Block) : (b.setRunState run).cfg = { b.cfg with runState := run } := rfl
@[simp] theorem Block.setRunState_table (run : Bool) (b : Block) : (b.setRunState run).table = b.table := rfl
@[simp] theorem Block.setRunState_buf (run : Bool) (b : Block) : (b.setRunState run).buf = b.buf := rfl
@[simp] theorem Block.setRunState_frameLen (run : Bool) (b : Block) : (b.setRunState run).frameLen = b.frameLen := rfl
@[simp] theorem Block.setRunState_cursor (run : Bool) (b : Block) : (b.setRunState run).cursor = b.cursor := rfl
@[simp] theorem Block.setRunState_phase (run : Bool) (b : Block) : (b.setRunState run).phase = b.phase := rfl

@[simp] theorem Block.setTransportMode_cfg (mode : BitVec 2) (b : Block) : (b.setTransportMode mode).cfg = { b.cfg with transportMode := mode } := rfl
@[simp] theorem Block.setTransportMode_table (mode : BitVec 2) (b : Block) : (b.setTransportMode mode).table = b.table := rfl
@[simp] theorem Block.setTransportMode_buf (mode : BitVec 2) (b : Block) : (b.setTransportMode mode).buf = b.buf := rfl
@[simp] theorem Block.setTransportMode_frameLen (mode : BitVec 2) (b : Block) : (b.setTransportMode mode).frameLen = b.frameLen := rfl
@[simp] theorem Block.setTransportMode_cursor (mode : BitVec 2) (b : Block) : (b.setTransportMode mode).cursor = b.cursor := rfl
@[simp] theorem Block.setTransportMode_phase (mode : BitVec 2) (b : Block) : (b.setTransportMode mode).phase = b.phase := rfl

@[simp] theorem Block.setRateCode_cfg (rate : BitVec 2) (b : Block) : (b.setRateCode rate).cfg = { b.cfg with rateCode := rate } := rfl
@[simp] theorem Block.setRateCode_table (rate : BitVec 2) (b : Block) : (b.setRateCode rate).table = b.table := rfl
@[simp] theorem Block.setRateCode_buf (rate : BitVec 2) (b : Block) : (b.setRateCode rate).buf = b.buf := rfl
@[simp] theorem Block.setRateCode_frameLen (rate : BitVec 2) (b : Block) : (b.setRateCode rate).frameLen = b.frameLen := rfl
@[simp] theorem Block.setRateCode_cursor (rate : BitVec 2) (b : Block) : (b.setRateCode rate).cursor = b.cursor := rfl
@[simp] theorem Block.setRateCode_phase (rate : BitVec 2) (b : Block) : (b.setRateCode rate).phase = b.phase := rfl

@[simp] theorem Block.selectChannel_cfg (i : Fin 6) (on : Bool) (b : Block) : (b.selectChannel i on).cfg = b.cfg := rfl
@[simp] theorem Block.selectChannel_table (i : Fin 6) (on : Bool) (b : Block) : (b.selectChannel i on).table = b.table.set i (b.table[i].select on) := rfl
@[simp] theorem Block.selectChannel_buf (i : Fin 6) (on : Bool) (b : Block) : (b.selectChannel i on).buf = b.buf := rfl
@[simp] theorem Block.selectChannel_frameLen (i : Fin 6) (on : Bool) (b : Block) : (b.selectChannel i on).frameLen = b.frameLen := rfl
@[simp] theorem Block.selectChannel_cursor (i : Fin 6) (on : Bool) (b : Block) : (b.selectChannel i on).cursor = b.cursor := rfl
@[simp] theorem Block.selectChannel_phase (i : Fin 6) (on : Bool) (b : Block) : (b.selectChannel i on).phase = b.phase := rfl

@[simp] theorem Block.selectChannels_cfg (w : Word16) (b : Block) : (b.selectChannels w).cfg = b.cfg := rfl
@[simp] theorem Block.selectChannels_table (w : Word16) (b : Block) : (b.selectChannels w).table = Vector.ofFn fun i : Fin 6 => b.table[i].select (channelBit w i) := rfl
@[simp] theorem Block.selectChannels_buf (w : Word16) (b : Block) : (b.selectChannels w).buf = b.buf := rfl
@[simp] theorem Block.selectChannels_frameLen (w : Word16) (b : Block) : (b.selectChannels w).frameLen = b.frameLen := rfl
@[simp] theorem Block.selectChannels_cursor (w : Word16) (b : Block) : (b.selectChannels w).cursor = b.cursor := rfl
@[simp] theorem Block.selectChannels_phase (w : Word16) (b : Block) : (b.selectChannels w).phase = b.phase := rfl

@[simp] theorem Block.decodeWord_cfg (w : Word16) (b : Block) : (b.decodeWord w).cfg = ⟨runStateField w, transportModeField w, rateCodeField w⟩ := rfl
@[simp] theorem Block.decodeWord_table (w : Word16) (b : Block) : (b.decodeWord w).table = Vector.ofFn fun i : Fin 6 => b.table[i].select (channelBit w i) := rfl
@[simp] theorem Block.decodeWord_buf (w : Word16) (b : Block) : (b.decodeWord w).buf = b.buf := rfl
@[simp] theorem Block.decodeWord_frameLen (w : Word16) (b : Block) : (b.decodeWord w).frameLen = b.frameLen := rfl
@[simp] theorem Block.decodeWord_cursor (w : Word16) (b : Block) : (b.decodeWord w).cursor = b.cursor := rfl
@[simp] theorem Block.decodeWord_phase (w : Word16) (b : Block) : (b.decodeWord w).phase = b.phase := rfl

@[simp] theorem Block.acquire_cfg (samples : Samples) (b : Block) : (b.acquire samples).cfg = b.cfg := rfl
@[simp] theorem Block.acquire_table (samples : Samples) (b : Block) : (b.acquire samples).table = Vector.ofFn fun i : Fin 6 => b.table[i].load samples[i] := rfl
@[simp] theorem Block.acquire_buf (samples : Samples) (b : Block) : (b.acquire samples).buf = b.buf := rfl
@[simp] theorem Block.acquire_frameLen (samples : Samples) (b : Block) : (b.acquire samples).frameLen = b.frameLen := rfl
@[simp] theorem Block.acquire_cursor (samples : Samples) (b : Block) : (b.acquire samples).cursor = b.cursor := rfl
@[simp] theorem Block.acquire_phase (samples : Samples) (b : Block) : (b.acquire samples).phase = b.phase := rfl

/-! ### Frame buffer and packer registers -/

@[simp] theorem Block.writeByte_cfg (j : Nat) (x : Byte) (b : Block) : (b.writeByte j x).cfg = b.cfg := rfl
@[simp] theorem Block.writeByte_table (j : Nat) (x : Byte) (b : Block) : (b.writeByte j x).table = b.table := rfl
@[simp] theorem Block.writeByte_buf (j : Nat) (x : Byte) (b : Block) : (b.writeByte j x).buf = b.buf.setIfInBounds j x := rfl
@[simp] theorem Block.writeByte_frameLen (j : Nat) (x : Byte) (b : Block) : (b.writeByte j x).frameLen = b.frameLen := rfl
@[simp] theorem Block.writeByte_cursor (j : Nat) (x : Byte) (b : Block) : (b.writeByte j x).cursor = b.cursor := rfl
@[simp] theorem Block.writeByte_phase (j : Nat) (x : Byte) (b : Block) : (b.writeByte j x).phase = b.phase := rfl

@[simp] theorem Block.writeHighNibble_cfg (j : Nat) (n : Nibble) (b : Block) : (b.writeHighNibble j n).cfg = b.cfg := rfl
@[simp] theorem Block.writeHighNibble_table (j : Nat) (n : Nibble) (b : Block) : (b.writeHighNibble j n).table = b.table := rfl
@[simp] theorem Block.writeHighNibble_buf (j : Nat) (n : Nibble) (b : Block) : (b.writeHighNibble j n).buf = b.buf.setIfInBounds j (setHighNibble (b.readByte j) n) := rfl
@[simp] theorem Block.writeHighNibble_frameLen (j : Nat) (n : Nibble) (b : Block) : (b.writeHighNibble j n).frameLen = b.frameLen := rfl
@[simp] theorem Block.writeHighNibble_cursor (j : Nat) (n : Nibble) (b : Block) : (b.writeHighNibble j n).cursor = b.cursor := rfl
@[simp] theorem Block.writeHighNibble_phase (j : Nat) (n : Nibble) (b : Block) : (b.writeHighNibble j n).phase = b.phase := rfl

@[simp] theorem Block.writeLowNibble_cfg (j : Nat) (n : Nibble) (b : Block) : (b.writeLowNibble j n).cfg = b.cfg := rfl
@[simp] theorem Block.writeLowNibble_table (j : Nat) (n : Nibble) (b : Block) : (b.writeLowNibble j n).table = b.table := rfl
@[simp] theorem Block.writeLowNibble_buf (j : Nat) (n : Nibble) (b : Block) : (b.writeLowNibble j n).buf = b.buf.setIfInBounds j (setLowNibble (b.readByte j) n) := rfl
@[simp] theorem Block.writeLowNibble_frameLen (j : Nat) (n : Nibble) (b : Block) : (b.writeLowNibble j n).frameLen = b.frameLen := rfl
@[simp] theorem Block.writeLowNibble_cursor (j : Nat) (n : Nibble) (b : Block) : (b.writeLowNibble j n).cursor = b.cursor := rfl
@[simp] theorem Block.writeLowNibble_phase (j : Nat) (n : Nibble) (b : Block) : (b.writeLowNibble j n).phase = b.phase := rfl

@[simp] theorem Block.clearFrame_cfg (b : Block) : (b.clearFrame).cfg = b.cfg := rfl
@[simp] theorem Block.clearFrame_table (b : Block) : (b.clearFrame).table = b.table := rfl
@[simp] theorem Block.clearFrame_buf (b : Block) : (b.clearFrame).buf = Vector.replicate 9 0 := rfl
@[simp] theorem Block.clearFrame_frameLen (b : Block) : (b.clearFrame).frameLen = b.frameLen := rfl
@[simp] theorem Block.clearFrame_cursor (b : Block) : (b.clearFrame).cursor = 0 := rfl
@[simp] theorem Block.clearFrame_phase (b : Block) : (b.clearFrame).phase = .A := rfl

@[simp] theorem Block.closeFrame_cfg (b : Block) : (b.closeFrame).cfg = b.cfg := rfl
@[simp] theorem Block.closeFrame_table (b : Block) : (b.closeFrame).table = b.table := rfl
@[simp] theorem Block.closeFrame_buf (b : Block) : (b.closeFrame).buf = b.buf := rfl
@[simp] theorem Block.closeFrame_frameLen (b : Block) : (b.closeFrame).frameLen = b.cursor + (if b.phase = .B then 1 else 0) := rfl
@[simp] theorem Block.closeFrame_cursor (b : Block) : (b.closeFrame).cursor = b.cursor := rfl
@[simp] theorem Block.closeFrame_phase (b : Block) : (b.closeFrame).phase = b.phase := rfl

@[simp] theorem Block.phaseA_cfg (v : Word12) (b : Block) : (b.phaseA v).cfg = b.cfg := rfl
@[simp] theorem Block.phaseA_table (v : Word12) (b : Block) : (b.phaseA v).table = b.table := rfl
@[simp] theorem Block.phaseA_frameLen (v : Word12) (b : Block) : (b.phaseA v).frameLen = b.frameLen := rfl
@[simp] theorem Block.phaseA_cursor (v : Word12) (b : Block) : (b.phaseA v).cursor = b.cursor + 1 := rfl
@[simp] theorem Block.phaseA_phase (v : Word12) (b : Block) : (b.phaseA v).phase = .B := rfl
@[simp] theorem Block.phaseB_cfg (v : Word12) (b : Block) : (b.phaseB v).cfg = b.cfg := rfl
@[simp] theorem Block.phaseB_table (v : Word12) (b : Block) : (b.phaseB v).table = b.table := rfl
@[simp] theorem Block.phaseB_frameLen (v : Word12) (b : Block) : (b.phaseB v).frameLen = b.frameLen := rfl
@[simp] theorem Block.phaseB_cursor (v : Word12) (b : Block) : (b.phaseB v).cursor = b.cursor + 2 := rfl
@[simp] theorem Block.phaseB_phase (v : Word12) (b : Block) : (b.phaseB v).phase = .A := rfl

/-! ### Around the block -/

@[simp] theorem State.mapBlock_params (f : Block → Block) (s : State) : (s.mapBlock f).params = s.params := rfl
@[simp] theorem State.mapBlock_collab (f : Block → Block) (s : State) : (s.mapBlock f).collab = s.collab := rfl
@[simp] theorem State.mapBlock_inbox (f : Block → Block) (s : State) : (s.mapBlock f).inbox = s.inbox := rfl
@[simp] theorem State.mapBlock_emitted (f : Block → Block) (s : State) : (s.mapBlock f).emitted = s.emitted := rfl
@[simp] theorem State.mapBlock_block (f : Block → Block) (s : State) : (s.mapBlock f).block = f s.block := rfl

@[simp] theorem State.mapBlock_mapBlock (f g : Block → Block) (s : State) :
    (s.mapBlock f).mapBlock g = s.mapBlock fun b => g (f b) := rfl

@[simp] theorem State.emitFrame_block (s : State) : s.emitFrame.block = s.block := by
  unfold State.emitFrame; split <;> rfl

@[simp] theorem State.emitFrame_params (s : State) : s.emitFrame.params = s.params := by
  unfold State.emitFrame; split <;> rfl

@[simp] theorem State.emitFrame_collab (s : State) : s.emitFrame.collab = s.collab := by
  unfold State.emitFrame; split <;> rfl

@[simp] theorem State.emitFrame_inbox (s : State) : s.emitFrame.inbox = s.inbox := by
  unfold State.emitFrame; split <;> rfl

theorem State.emitFrame_emitted (s : State) :
    s.emitFrame.emitted = s.emitted
      ++ (if s.block.cfg.runState then [⟨transportOf s.block.cfg.transportMode, s.block.frameBytes⟩] else []) := by
  unfold State.emitFrame; split <;> simp

end Sys2Proof.Machine
end

