-- ==== Sys2Proof/Laws/Table.lean ====
section
/-! SUPPORT. What DECODE and ACQUIRE do to one entry of the table, and what the readers of the table give. -/

namespace Sys2Proof.Machine

@[simp] theorem Channel.select_active (on : Bool) (c : Channel) : (c.select on).active = on := rfl

theorem Channel.select_value (on : Bool) (c : Channel) : (c.select on).value = if on then c.value else 0 := rfl

theorem Channel.select_select (a b : Bool) (c : Channel) :
    (c.select a).select b = ⟨b, if a && b then c.value else 0⟩ := by
  cases a <;> cases b <;> simp [Channel.select]

theorem Channel.select_idem (on : Bool) (c : Channel) : (c.select on).select on = c.select on := by
  cases on <;> simp [Channel.select]

@[simp] theorem Channel.load_active (n : Nat) (c : Channel) : (c.load n).active = c.active := by
  unfold Channel.load; split <;> rfl

theorem Channel.load_of_active {n : Nat} {c : Channel} (h : c.active = true) :
    c.load n = ⟨true, trunc12 n⟩ := by
  cases c; simp_all [Channel.load]

theorem Channel.load_of_inactive {n : Nat} {c : Channel} (h : c.active = false) : c.load n = c := by
  simp [Channel.load, h]

theorem Channel.load_idem (n : Nat) (c : Channel) : (c.load n).load n = c.load n := by
  cases h : c.active
  · simp [Channel.load_of_inactive h]
  · simp [Channel.load_of_active h, Channel.load_of_active]

theorem Block.decodeWord_entry (w : Word16) (b : Block) (i : Fin 6) :
    (b.decodeWord w).table[i] = b.table[i].select (channelBit w i) := by simp

theorem Block.acquire_entry (samples : Samples) (b : Block) (i : Fin 6) :
    (b.acquire samples).table[i] = b.table[i].load samples[i] := by simp

theorem Block.selectChannel_entry (i : Fin 6) (on : Bool) (b : Block) :
    (b.selectChannel i on).table[i] = b.table[i].select on := by simp

theorem Block.selectChannel_other {i j : Fin 6} (h : j ≠ i) (on : Bool) (b : Block) :
    (b.selectChannel i on).table[j] = b.table[j] := by
  have : i.val ≠ j.val := fun e => h (Fin.ext e.symm)
  simp [this]

theorem trunc12_toNat (n : Nat) : (trunc12 n).toNat = n % 4096 := by simp [trunc12]

/-- Two samples that agree in their low 12 bits are one sample to the table (R67). -/
theorem trunc12_congr {m n : Nat} (h : m % 4096 = n % 4096) : trunc12 m = trunc12 n :=
  BitVec.eq_of_toNat_eq (by simp [trunc12_toNat, h])

/-- Tables are equal when all six entries are. -/
theorem table_ext {t u : Vector Channel 6} (h : ∀ i : Fin 6, t[i] = u[i]) : t = u :=
  Vector.ext fun i hi => h ⟨i, hi⟩

end Sys2Proof.Machine
end

