-- ==== Sys2Proof/Laws/Packer.lean ====
section
/-! SUPPORT. What one turn of PACK, and a whole pass, leave unchanged, and that the frame is made of the values alone. -/

namespace Sys2Proof.Machine

@[simp] theorem Block.packSample_cfg (b : Block) (v : Word12) : (b.packSample v).cfg = b.cfg := by
  unfold Block.packSample; split <;> rfl

@[simp] theorem Block.packSample_table (b : Block) (v : Word12) : (b.packSample v).table = b.table := by
  unfold Block.packSample; split <;> rfl

@[simp] theorem Block.packSample_frameLen (b : Block) (v : Word12) : (b.packSample v).frameLen = b.frameLen := by
  unfold Block.packSample; split <;> rfl

theorem Block.packSamples_keep (vs : List Word12) (b : Block) :
    (vs.foldl Block.packSample b).cfg = b.cfg ∧ (vs.foldl Block.packSample b).table = b.table
      ∧ (vs.foldl Block.packSample b).frameLen = b.frameLen := by
  induction vs generalizing b with
  | nil => simp
  | cons v vs ih => simpa using ih (b.packSample v)

@[simp] theorem Block.pack_cfg (b : Block) : b.pack.cfg = b.cfg := by
  simp [Block.pack, Block.packSamples_keep]

@[simp] theorem Block.pack_table (b : Block) : b.pack.table = b.table := by
  simp [Block.pack, Block.packSamples_keep]

/-- One turn's buffer, cursor and phase depend on the old ones and the sample only. -/
theorem Block.packSample_congr {b c : Block} (v : Word12) (hb : b.buf = c.buf) (hc : b.cursor = c.cursor)
    (hp : b.phase = c.phase) :
    (b.packSample v).buf = (c.packSample v).buf ∧ (b.packSample v).cursor = (c.packSample v).cursor
      ∧ (b.packSample v).phase = (c.packSample v).phase := by
  unfold Block.packSample
  rw [hp]
  cases c.phase <;>
    simp [Block.phaseA, Block.phaseB, Block.writeHighNibble, Block.writeLowNibble, Block.writeByte, Block.readByte, hb, hc]

theorem Block.packSamples_congr (vs : List Word12) {b c : Block} (hb : b.buf = c.buf) (hc : b.cursor = c.cursor)
    (hp : b.phase = c.phase) :
    (vs.foldl Block.packSample b).buf = (vs.foldl Block.packSample c).buf
      ∧ (vs.foldl Block.packSample b).cursor = (vs.foldl Block.packSample c).cursor
      ∧ (vs.foldl Block.packSample b).phase = (vs.foldl Block.packSample c).phase := by
  induction vs generalizing b c with
  | nil => exact ⟨hb, hc, hp⟩
  | cons v vs ih =>
    obtain ⟨h1, h2, h3⟩ := Block.packSample_congr v hb hc hp
    simpa using ih h1 h2 h3

/-- PACK of a list of values into an empty buffer. -/
def packValues (vs : List Word12) : Block := (vs.foldl Block.packSample Block.zero).closeFrame

/-- What a pass leaves in the packer is made of the active values alone (R79, R84). -/
theorem Block.pack_eq_packValues (b : Block) :
    b.pack.buf = (packValues b.activeValues).buf ∧ b.pack.frameLen = (packValues b.activeValues).frameLen
      ∧ b.pack.cursor = (packValues b.activeValues).cursor ∧ b.pack.phase = (packValues b.activeValues).phase := by
  obtain ⟨h1, h2, h3⟩ := Block.packSamples_congr b.activeValues (b := b.clearFrame) (c := Block.zero) rfl rfl rfl
  exact ⟨h1, by simp [Block.pack, packValues, h2, h3], h2, h3⟩

/-- Everything PHASE_A can do when it completes (R75). -/
theorem execPhaseA_eq_next {v : Word12} {s t : State} :
    execPhaseA v s = .next t ↔ s.block.phase = .A ∧ s.block.cursor.val ≤ 7 ∧ t = s.mapBlock (Block.phaseA v) := by
  unfold execPhaseA Block.phaseFits
  cases s.block.phase <;> simp
  split <;> simp_all [eq_comm] <;> omega

/-- Everything PHASE_B can do when it completes (R76). -/
theorem execPhaseB_eq_next {v : Word12} {s t : State} :
    execPhaseB v s = .next t ↔ s.block.phase = .B ∧ s.block.cursor.val ≤ 7 ∧ t = s.mapBlock (Block.phaseB v) := by
  unfold execPhaseB Block.phaseFits
  cases s.block.phase <;> simp
  split <;> simp_all [eq_comm] <;> omega

/-- At most six channels are active (R18). -/
theorem Block.activeValues_length_le (b : Block) : b.activeValues.length ≤ 6 := by
  simpa [Block.activeValues, Block.activeList] using List.length_filterMap_le b.activeEntry (List.finRange 6)

/-- The values of `activeList(T)`, channel by channel (R71). -/
theorem Block.activeValues_eq (b : Block) :
    b.activeValues = ((List.finRange 6).filter fun i => b.table[i].active).map fun i => b.table[i].value := by
  unfold Block.activeValues Block.activeList
  induction List.finRange 6 with
  | nil => rfl
  | cons i l ih => cases h : b.table[i].active <;> simp_all [Block.activeEntry]

end Sys2Proof.Machine
end

