-- ==== Sys2Proof/Laws/Frame.lean ====
section
/-! SUPPORT. The bytes of a frame: the nibble writes bit by bit, the frame of each number of samples (R33), and the bit
strings of a pair and of a last sample. -/

namespace Sys2Proof.Machine

theorem setHighNibble_getLsbD (x : Byte) (n : Nibble) {i : Nat} :
    (setHighNibble x n).getLsbD i = if i < 4 then x.getLsbD i else n.getLsbD (i - 4) := by
  unfold setHighNibble
  refine (BitVec.getLsbD_append (x := n) (y := x.extractLsb' 0 4)).trans ?_
  by_cases h4 : i < 4 <;> simp [h4]

theorem setLowNibble_getLsbD (x : Byte) (n : Nibble) {i : Nat} (h : i < 8) :
    (setLowNibble x n).getLsbD i = if i < 4 then n.getLsbD i else x.getLsbD i := by
  unfold setLowNibble
  refine (BitVec.getLsbD_append (x := x.extractLsb' 4 4) (y := n)).trans ?_
  by_cases h4 : i < 4
  · simp [h4]
  · simp [h4, show i - 4 < 4 by omega, show 4 + (i - 4) = i by omega]

/-- The byte two samples share: the earlier one's low nibble, then the later one's high nibble (R29). -/
abbrev sharedByte (a b : Word12) : Byte := setLowNibble (setHighNibble 0 (lowNibble a)) (highNibble b)

/-! ### A frame's bit string (R28, R82) -/

theorem byteBits_pair (a b : Word12) :
    byteBits (highByte a) ++ byteBits (sharedByte a b) ++ byteBits (lowByte b) = sampleBits a ++ sampleBits b := by
  have hr : List.range 8 = [0, 1, 2, 3, 4, 5, 6, 7] := rfl
  have hs : List.range 12 = [0, 1, 2, 3, 4, 5, 6, 7, 8, 9, 10, 11] := rfl
  simp only [byteBits, sampleBits, hr, hs, List.map_cons, List.map_nil]
  simp [-BitVec.getLsbD_eq_getElem, setLowNibble_getLsbD, setHighNibble_getLsbD, highByte, lowByte, lowNibble,
    highNibble]

theorem byteBits_last (a : Word12) :
    byteBits (highByte a) ++ byteBits (setHighNibble 0 (lowNibble a)) = sampleBits a ++ [false, false, false, false] := by
  have hr : List.range 8 = [0, 1, 2, 3, 4, 5, 6, 7] := rfl
  have hs : List.range 12 = [0, 1, 2, 3, 4, 5, 6, 7, 8, 9, 10, 11] := rfl
  simp only [byteBits, sampleBits, hr, hs, List.map_cons, List.map_nil]
  simp [-BitVec.getLsbD_eq_getElem, setHighNibble_getLsbD, highByte, lowNibble]

theorem sampleBits_length (v : Word12) : (sampleBits v).length = 12 := by simp [sampleBits]

theorem sampleOfBits_sampleBits (v : Word12) : sampleOfBits (sampleBits v) = v := by
  apply BitVec.eq_of_getLsbD_eq
  intro i hi
  have hs : List.range 12 = [0, 1, 2, 3, 4, 5, 6, 7, 8, 9, 10, 11] := rfl
  simp only [sampleOfBits, sampleBits, hs]
  interval_cases i <;> simp

/-! ### The pass over each number of samples (R33, R80) -/

theorem packSamples_none :
    [].foldl Block.packSample Block.zero =
      { Block.zero with buf := #v[0, 0, 0, 0, 0, 0, 0, 0, 0], cursor := 0, phase := .A } := rfl

theorem packSamples_one (a : Word12) :
    [a].foldl Block.packSample Block.zero =
      { Block.zero with buf := #v[highByte a, setHighNibble 0 (lowNibble a), 0, 0, 0, 0, 0, 0, 0], cursor := 1, phase := .B } := by
  rw [show [a] = [] ++ [a] from rfl, List.foldl_append, packSamples_none]; rfl

theorem packSamples_two (a b : Word12) :
    [a, b].foldl Block.packSample Block.zero =
      { Block.zero with buf := #v[highByte a, sharedByte a b, lowByte b, 0, 0, 0, 0, 0, 0], cursor := 3, phase := .A } := by
  rw [show [a, b] = [a] ++ [b] from rfl, List.foldl_append, packSamples_one]; rfl

theorem packSamples_three (a b c : Word12) :
    [a, b, c].foldl Block.packSample Block.zero =
      { Block.zero with buf := #v[highByte a, sharedByte a b, lowByte b, highByte c, setHighNibble 0 (lowNibble c), 0, 0, 0, 0], cursor := 4, phase := .B } := by
  rw [show [a, b, c] = [a, b] ++ [c] from rfl, List.foldl_append, packSamples_two]; rfl

theorem packSamples_four (a b c d : Word12) :
    [a, b, c, d].foldl Block.packSample Block.zero =
      { Block.zero with buf := #v[highByte a, sharedByte a b, lowByte b, highByte c, sharedByte c d, lowByte d, 0, 0, 0], cursor := 6, phase := .A } := by
  rw [show [a, b, c, d] = [a, b, c] ++ [d] from rfl, List.foldl_append, packSamples_three]; rfl

theorem packSamples_five (a b c d e : Word12) :
    [a, b, c, d, e].foldl Block.packSample Block.zero =
      { Block.zero with buf := #v[highByte a, sharedByte a b, lowByte b, highByte c, sharedByte c d, lowByte d, highByte e, setHighNibble 0 (lowNibble e), 0], cursor := 7, phase := .B } := by
  rw [show [a, b, c, d, e] = [a, b, c, d] ++ [e] from rfl, List.foldl_append, packSamples_four]; rfl

theorem packSamples_six (a b c d e f : Word12) :
    [a, b, c, d, e, f].foldl Block.packSample Block.zero =
      { Block.zero with buf := #v[highByte a, sharedByte a b, lowByte b, highByte c, sharedByte c d, lowByte d, highByte e, sharedByte e f, lowByte f], cursor := 9, phase := .A } := by
  rw [show [a, b, c, d, e, f] = [a, b, c, d, e] ++ [f] from rfl, List.foldl_append, packSamples_five]; rfl

theorem packValues_none :
    packValues [] =
      { Block.zero with buf := #v[0, 0, 0, 0, 0, 0, 0, 0, 0], frameLen := 0, cursor := 0, phase := .A } := by
  rw [packValues, packSamples_none]; rfl

theorem packValues_one (a : Word12) :
    packValues [a] =
      { Block.zero with buf := #v[highByte a, setHighNibble 0 (lowNibble a), 0, 0, 0, 0, 0, 0, 0], frameLen := 2, cursor := 1, phase := .B } := by
  rw [packValues, packSamples_one]; rfl

theorem packValues_two (a b : Word12) :
    packValues [a, b] =
      { Block.zero with buf := #v[highByte a, sharedByte a b, lowByte b, 0, 0, 0, 0, 0, 0], frameLen := 3, cursor := 3, phase := .A } := by
  rw [packValues, packSamples_two]; rfl

theorem packValues_three (a b c : Word12) :
    packValues [a, b, c] =
      { Block.zero with buf := #v[highByte a, sharedByte a b, lowByte b, highByte c, setHighNibble 0 (lowNibble c), 0, 0, 0, 0], frameLen := 5, cursor := 4, phase := .B } := by
  rw [packValues, packSamples_three]; rfl

theorem packValues_four (a b c d : Word12) :
    packValues [a, b, c, d] =
      { Block.zero with buf := #v[highByte a, sharedByte a b, lowByte b, highByte c, sharedByte c d, lowByte d, 0, 0, 0], frameLen := 6, cursor := 6, phase := .A } := by
  rw [packValues, packSamples_four]; rfl

theorem packValues_five (a b c d e : Word12) :
    packValues [a, b, c, d, e] =
      { Block.zero with buf := #v[highByte a, sharedByte a b, lowByte b, highByte c, sharedByte c d, lowByte d, highByte e, setHighNibble 0 (lowNibble e), 0], frameLen := 8, cursor := 7, phase := .B } := by
  rw [packValues, packSamples_five]; rfl

theorem packValues_six (a b c d e f : Word12) :
    packValues [a, b, c, d, e, f] =
      { Block.zero with buf := #v[highByte a, sharedByte a b, lowByte b, highByte c, sharedByte c d, lowByte d, highByte e, sharedByte e f, lowByte f], frameLen := 9, cursor := 9, phase := .A } := by
  rw [packValues, packSamples_six]; rfl

/-- A property of every frame is a property of the frames of none to six samples (R18). -/
theorem packValues_cases {P : List Word12 → Block → Prop} (h0 : P [] (packValues []))
    (h1 : ∀ a, P [a] (packValues [a])) (h2 : ∀ a b, P [a, b] (packValues [a, b]))
    (h3 : ∀ a b c, P [a, b, c] (packValues [a, b, c])) (h4 : ∀ a b c d, P [a, b, c, d] (packValues [a, b, c, d]))
    (h5 : ∀ a b c d e, P [a, b, c, d, e] (packValues [a, b, c, d, e]))
    (h6 : ∀ a b c d e f, P [a, b, c, d, e, f] (packValues [a, b, c, d, e, f]))
    (vs : List Word12) (h : vs.length ≤ 6) : P vs (packValues vs) := by
  match vs, h with
  | [], _ => exact h0
  | [a], _ => exact h1 a
  | [a, b], _ => exact h2 a b
  | [a, b, c], _ => exact h3 a b c
  | [a, b, c, d], _ => exact h4 a b c d
  | [a, b, c, d, e], _ => exact h5 a b c d e
  | [a, b, c, d, e, f], _ => exact h6 a b c d e f

end Sys2Proof.Machine
end

