-- ==== Sys2Proof/Laws/PerInstr.lean ====
section
/-! SUPPORT. Statements made of every instruction, one lemma a constructor. -/

namespace Sys2Proof.Laws.Encodable

/-- R55: an EVENT or CW16 instruction has a transaction, a field row has a mask and match value, an INTERNAL operation
has neither. -/
def Statement (i : Instr) : Prop :=
  ((encode i).isSome = true ↔ i.format = .event ∨ i.format = .cw16)
    ∧ ((encodeField i).isSome = true ↔ i.format = .cw16Field)

theorem reset : Statement .reset := by simp [Statement, encode, encodeField, Instr.format]
theorem tick (a b : Option Word16) (samples : Samples) : Statement (.tick a b samples) := by
  simp [Statement, encode, encodeField, Instr.format]
theorem decode (w : Word16) : Statement (.decode w) := by simp [Statement, encode, encodeField, Instr.format]
theorem acquire (samples : Samples) : Statement (.acquire samples) := by
  simp [Statement, encode, encodeField, Instr.format]
theorem pack : Statement .pack := by simp [Statement, encode, encodeField, Instr.format]
theorem phaseA (v : Word12) : Statement (.phaseA v) := by simp [Statement, encode, encodeField, Instr.format]
theorem phaseB (v : Word12) : Statement (.phaseB v) := by simp [Statement, encode, encodeField, Instr.format]
theorem emit : Statement .emit := by simp [Statement, encode, encodeField, Instr.format]
theorem cwRun0 : Statement .cwRun0 := by simp [Statement, encode, encodeField, Instr.format]
theorem cwRun1 : Statement .cwRun1 := by simp [Statement, encode, encodeField, Instr.format]
theorem cwMode0 : Statement .cwMode0 := by simp [Statement, encode, encodeField, Instr.format]
theorem cwMode1 : Statement .cwMode1 := by simp [Statement, encode, encodeField, Instr.format]
theorem cwMode2 : Statement .cwMode2 := by simp [Statement, encode, encodeField, Instr.format]
theorem cwMode3 : Statement .cwMode3 := by simp [Statement, encode, encodeField, Instr.format]
theorem cwRate0 : Statement .cwRate0 := by simp [Statement, encode, encodeField, Instr.format]
theorem cwRate1 : Statement .cwRate1 := by simp [Statement, encode, encodeField, Instr.format]
theorem cwRate2 : Statement .cwRate2 := by simp [Statement, encode, encodeField, Instr.format]
theorem cwRate3 : Statement .cwRate3 := by simp [Statement, encode, encodeField, Instr.format]
theorem cwCh0 (on : Bool) : Statement (.cwCh0 on) := by simp [Statement, encode, encodeField, Instr.format]
theorem cwCh1 (on : Bool) : Statement (.cwCh1 on) := by simp [Statement, encode, encodeField, Instr.format]
theorem cwCh2 (on : Bool) : Statement (.cwCh2 on) := by simp [Statement, encode, encodeField, Instr.format]
theorem cwCh3 (on : Bool) : Statement (.cwCh3 on) := by simp [Statement, encode, encodeField, Instr.format]
theorem cwCh4 (on : Bool) : Statement (.cwCh4 on) := by simp [Statement, encode, encodeField, Instr.format]
theorem cwCh5 (on : Bool) : Statement (.cwCh5 on) := by simp [Statement, encode, encodeField, Instr.format]

end Sys2Proof.Laws.Encodable
end

