-- ==== Sys2Proof/Laws/Tick.lean ====
section
/-! SUPPORT. When a tick completes, what it leaves around the block, and everything a fetch and a step can give. -/

namespace Sys2Proof.Machine

/-- Nobody is missing exactly if all three collaborators answer (R98). -/
theorem Collaborators.missing_eq_none {c : Collaborators} :
    c.missing = none ↔ c.acquisition = true ∧ c.wired = true ∧ c.wireless = true := by
  rcases c with ⟨a, b, d⟩
  cases a <;> cases b <;> cases d <;> simp [Collaborators.missing]

@[simp] theorem Collaborators.answering_missing : Collaborators.answering.missing = none := rfl

theorem execTick_of_answered {s : State} (h : s.collab.missing = none) (a b : Option Word16) (samples : Samples) :
    execTick a b samples s = .next (s.tick a b samples) := by
  simp [execTick, h]

@[simp] theorem State.tick_params (s : State) (a b : Option Word16) (samples : Samples) :
    (s.tick a b samples).params = s.params := by
  unfold State.tick State.sampleAndSend; split <;> simp

@[simp] theorem State.tick_collab (s : State) (a b : Option Word16) (samples : Samples) :
    (s.tick a b samples).collab = s.collab := by
  unfold State.tick State.sampleAndSend; split <;> simp

@[simp] theorem State.tick_inbox (s : State) (a b : Option Word16) (samples : Samples) :
    (s.tick a b samples).inbox = s.inbox := by
  unfold State.tick State.sampleAndSend; split <;> simp

/-- Everything TICK can do when it completes (R88, R98). -/
theorem execTick_eq_next {a b : Option Word16} {samples : Samples} {s t : State} :
    execTick a b samples s = .next t ↔ s.collab.missing = none ∧ t = s.tick a b samples := by
  cases h : s.collab.missing <;> simp [execTick, h, eq_comm]

theorem State.fetch_nil {s : State} (h : s.inbox = []) : s.fetch = none := by simp [State.fetch, h]

theorem State.fetch_cons {s : State} {a : Arrival} {rest : List Arrival} (h : s.inbox = a :: rest) :
    s.fetch = some (a.event, { s with inbox := rest, collab := a.answers }) := by simp [State.fetch, h]

/-- What an event can decode to: RESET or its TICK, by its code (R52, R87). -/
theorem decode_event_cases {e : Event} {i : Instr} :
    decode (.event e) = .ok i ↔ (e.ev = 0b00 ∧ i = .reset) ∨ (e.ev = 0b01 ∧ i = e.tick) := by
  by_cases h0 : e.ev = 0b00
  · simpa [decode, decodeEvent, h0] using eq_comm
  · by_cases h1 : e.ev = 0b01
    · simpa [decode, decodeEvent, h1] using eq_comm
    · simp_all [decode, decodeEvent]

/-- Everything a step can do when it answers a next state. -/
theorem step_cases {s t : State} (h : step s = .next t) :
    (s.inbox = [] ∧ t = s)
      ∨ ∃ a rest i, s.inbox = a :: rest ∧ decode (.event a.event) = .ok i
        ∧ exec i { s with inbox := rest, collab := a.answers } = .next t := by
  unfold step at h
  cases hi : s.inbox with
  | nil => exact .inl ⟨rfl, by simpa [State.fetch_nil hi, eq_comm] using h⟩
  | cons a rest =>
    rw [State.fetch_cons hi] at h
    simp only at h
    split at h
    · rename_i i hd; exact .inr ⟨a, rest, i, rfl, hd, h⟩
    · simp at h

end Sys2Proof.Machine
end

