-- ==== Sys2Proof/Tests/Slice0.lean ====
section
/-! SUPPORT. The model's own tests. Expected values come from spec/95_test_vectors.md and the examples of the rules;
each theorem names its source. The witness theorems show that an obligation's hypotheses can be met. -/

namespace Sys2Proof.Tests

open Sys2Proof Sys2Proof.Machine

/-- A state of one configuration and table; the frame buffer empty, every collaborator answering. -/
def stateWith (run : Bool) (mode rate : BitVec 2) (act : BitVec 6) (values : Vector Word12 6) : State :=
  { State.reset with
    block := { Block.zero with
      cfg := ⟨run, mode, rate⟩
      table := Vector.ofFn fun i : Fin 6 => ⟨act.getLsbD (5 - i.val), values[i]⟩ } }

/-- The state of a next outcome. -/
def outcomeState : Host.Outcome State Fault Refusal → Option State
  | .next s => some s
  | .fault _ => none
  | .refused _ => none

/-- The table's values after an outcome. -/
def valuesAfter (o : Host.Outcome State Fault Refusal) : Option (List Word12) :=
  (outcomeState o).map fun s => s.block.table.toList.map (·.value)

/-- The mask, the frame and the emissions after an outcome. -/
def maskAfter (o : Host.Outcome State Fault Refusal) : Option (BitVec 6) := (outcomeState o).map State.activeMask

def frameAfter (o : Host.Outcome State Fault Refusal) : Option (List Byte) := (outcomeState o).map State.frameOut

def emittedAfter (o : Host.Outcome State Fault Refusal) : Option (List Emission) := (outcomeState o).map (·.emitted)

def cfgAfter (o : Host.Outcome State Fault Refusal) : Option CfgRegs := (outcomeState o).map (·.block.cfg)

/-- `act=111111, val=[1,2,3,4,5,6]` of 95 2.1. -/
def allActive : State := stateWith true 0 0 0b111111 #v[1, 2, 3, 4, 5, 6]

/-- Channel 0 only, value `0xABC`, packed: the frame `AB C0` of 95 2.5. -/
def oneChannelPacked (run : Bool) (mode : BitVec 2) : State :=
  (stateWith run mode 0 0b100000 #v[0xABC, 0, 0, 0, 0, 0]).mapBlock Block.pack

/-! ### WellFormed -/

/-- R25: 4096 does not fit a 12-bit port. -/
theorem test_wf_tick_refuses_wide_sample : (Instr.tick none none #v[0, 0, 0, 4096, 0, 0]).wf = false := by decide

theorem test_wf_acquire_refuses_wide_sample : (Instr.acquire #v[0, 0, 0, 0, 0, 0x1ABC]).wf = false := by decide

theorem test_wf_accepts_4095 : (Instr.tick (some 0xFFFF) none #v[4095, 0, 4095, 0, 4095, 0]).wf = true := by decide

/-! ### Decode: words written out from R42, R44 and R52 -/

/-- R52: `ev = 00`. -/
theorem test_decode_reset : decodeTableWord 8 0b00 = some .reset := by decide

/-- R52: `ev = 01` with its payload. -/
theorem test_decode_tick :
    decode (.event ⟨0b01, some 0x8FE0, none, #v[4095, 0, 2048, 1, 4094, 17]⟩)
      = .ok (.tick (some 0x8FE0) none #v[4095, 0, 2048, 1, 4094, 17]) := by rfl

/-- R52: `10` and `11` are reserved. -/
theorem test_decode_reserved : decodeTableWord 8 0b10 = none ∧ decodeTableWord 8 0b11 = none := by decide

/-- R49: `0b1_00_01_111111_00000` is `0x8FE0`. -/
theorem test_decode_word : decodeTableWord 16 0b1000111111100000 = some (.decode 0x8FE0) := by decide

/-- R55: the INTERNAL rows have no bits. -/
theorem test_decode_internal_rows : decodeTableWord 0 0 = none ∧ encode (.acquire #v[0, 0, 0, 0, 0, 0]) = none
    ∧ encode .pack = none ∧ encode (.phaseA 0) = none ∧ encode (.phaseB 0) = none ∧ encode .emit = none := by decide

/-- R42: bit 15. -/
theorem test_decode_run_rows : decodeField 0x8000 0b0111111111111111 = some .cwRun0
    ∧ decodeField 0x8000 0b1000000000000000 = some .cwRun1 := by decide

/-- R45: bits 14..13. -/
theorem test_decode_mode_rows : decodeField 0x6000 0b1001111111111111 = some .cwMode0
    ∧ decodeField 0x6000 0b0010000000000000 = some .cwMode1 ∧ decodeField 0x6000 0b0100000000000000 = some .cwMode2
    ∧ decodeField 0x6000 0b0110000000000000 = some .cwMode3 := by decide

/-- R46: bits 12..11. -/
theorem test_decode_rate_rows : decodeField 0x1800 0b1110011111111111 = some .cwRate0
    ∧ decodeField 0x1800 0b0000100000000000 = some .cwRate1 ∧ decodeField 0x1800 0b0001000000000000 = some .cwRate2
    ∧ decodeField 0x1800 0b0001100000000000 = some .cwRate3 := by decide

/-- R44: channel `i` is bit `10 - i`; `0x8540` activates channels 0, 2, 4 (95 2.4). -/
theorem test_decode_channel_rows : decodeField 0x0400 0b1000010101000000 = some (.cwCh0 true)
    ∧ decodeField 0x0200 0b1000010101000000 = some (.cwCh1 false)
    ∧ decodeField 0x0100 0b1000010101000000 = some (.cwCh2 true)
    ∧ decodeField 0x0080 0b1000010101000000 = some (.cwCh3 false)
    ∧ decodeField 0x0040 0b1000010101000000 = some (.cwCh4 true)
    ∧ decodeField 0x0020 0b1000010101000000 = some (.cwCh5 false) := by decide

/-- R49, 95 P1 and P3: composed words. -/
theorem test_cw_words : cw true 0 1 0b111111 = 0x8FE0 ∧ cw true 1 3 0b101000 = 0xBD00 ∧ cw true 2 2 0b000111 = 0xD0E0
    ∧ cw true 3 0 0 = 0xE000 := by decide

/-- R54: the three forms of a word, and a line of 95 P1. -/
theorem test_trace_line :
    (TraceLine.tick none (some (.fields true 1 3 0b101000)) #v[0x123, 0x456, 0x789, 0xABC, 0xDEF, 0x001]).instr
        = .tick none (some 0xBD00) #v[0x123, 0x456, 0x789, 0xABC, 0xDEF, 0x001]
      ∧ (WordForm.grouped 1 0b00 0b01 0b111111 0b00000).word = 0x8FE0 ∧ TraceLine.reset.instr = .reset := by decide

/-! ### DECODE and its rows -/

/-- 95 2.1: `0x8400` on `act=111111, val=[1,2,3,4,5,6]`. -/
theorem test_decode_clears_stale_values :
    maskAfter (exec (.decode 0x8400) allActive) = some 0b100000
      ∧ valuesAfter (exec (.decode 0x8400) allActive) = some [1, 0, 0, 0, 0, 0] := by decide

/-- 95 2.1: `0xC7E0` stores the reserved mode 2; `0x9540` is run 1, mode 0, rate 2, `101010`. -/
theorem test_decode_fields :
    cfgAfter (exec (.decode 0xC7E0) State.reset) = some ⟨true, 2, 0⟩
      ∧ cfgAfter (exec (.decode 0x9540) State.reset) = some ⟨true, 0, 2⟩
      ∧ maskAfter (exec (.decode 0x9540) State.reset) = some 0b101010 := by decide

/-- R42. -/
theorem test_run_rows : cfgAfter (exec .cwRun0 allActive) = some ⟨false, 0, 0⟩
    ∧ cfgAfter (exec .cwRun1 State.reset) = some ⟨true, 0, 0⟩ := by decide

/-- R45. -/
theorem test_mode_rows : cfgAfter (exec .cwMode0 (oneChannelPacked true 3)) = some ⟨true, 0, 0⟩
    ∧ cfgAfter (exec .cwMode1 allActive) = some ⟨true, 1, 0⟩ ∧ cfgAfter (exec .cwMode2 allActive) = some ⟨true, 2, 0⟩
    ∧ cfgAfter (exec .cwMode3 allActive) = some ⟨true, 3, 0⟩ := by decide

/-- R46. -/
theorem test_rate_rows : cfgAfter (exec .cwRate0 (stateWith true 0 3 0 #v[0, 0, 0, 0, 0, 0])) = some ⟨true, 0, 0⟩
    ∧ cfgAfter (exec .cwRate1 allActive) = some ⟨true, 0, 1⟩ ∧ cfgAfter (exec .cwRate2 allActive) = some ⟨true, 0, 2⟩
    ∧ cfgAfter (exec .cwRate3 allActive) = some ⟨true, 0, 3⟩ := by decide

/-- R44, R58: a select bit of 0 clears its own channel only; one of 1 keeps the value. -/
theorem test_channel_rows :
    valuesAfter (exec (.cwCh0 false) allActive) = some [0, 2, 3, 4, 5, 6]
      ∧ valuesAfter (exec (.cwCh1 false) allActive) = some [1, 0, 3, 4, 5, 6]
      ∧ valuesAfter (exec (.cwCh2 false) allActive) = some [1, 2, 0, 4, 5, 6]
      ∧ valuesAfter (exec (.cwCh3 false) allActive) = some [1, 2, 3, 0, 5, 6]
      ∧ valuesAfter (exec (.cwCh4 false) allActive) = some [1, 2, 3, 4, 0, 6]
      ∧ valuesAfter (exec (.cwCh5 true) allActive) = some [1, 2, 3, 4, 5, 6]
      ∧ maskAfter (exec (.cwCh5 false) allActive) = some 0b111110 := by decide

/-! ### ACQUIRE, PHASE_A, PHASE_B, PACK -/

/-- 95 2.2, first and last row. -/
theorem test_acquire :
    valuesAfter (exec (.acquire #v[4095, 7, 2048, 9, 9, 9]) (stateWith true 0 0 0b101000 #v[0, 0, 0, 0, 0, 0]))
        = some [4095, 0, 2048, 0, 0, 0]
      ∧ valuesAfter (exec (.acquire #v[0x1ABC, 0, 0, 0, 0, 0]) (stateWith true 0 0 0b100000 #v[0, 0, 0, 0, 0, 0]))
        = some [0xABC, 0, 0, 0, 0, 0] := by decide

/-- 95 2.3, first row. -/
theorem test_phaseA :
    (outcomeState (exec (.phaseA 0xABC) State.reset)).map
        (fun s => (s.block.cursor, s.block.phase, s.block.buf.toList.take 3)) = some (1, .B, [0xAB, 0xC0, 0x00]) := by
  decide

/-- 95 2.3, second row: after the PHASE_A above. -/
theorem test_phaseB :
    (outcomeState (exec (.phaseB 0x123) (State.reset.mapBlock (Block.phaseA 0xABC)))).map
        (fun s => (s.block.cursor, s.block.phase, s.block.buf.toList.take 3)) = some (3, .A, [0xAB, 0xC1, 0x23]) := by
  decide

/-- 95 L1-1. -/
theorem test_pack_six :
    frameAfter (exec .pack (stateWith true 0 1 0b111111 #v[4095, 0, 2048, 1, 4094, 17]))
      = some [0xFF, 0xF0, 0x00, 0x80, 0x00, 0x01, 0xFF, 0xE0, 0x11] := by decide

/-- 95 2.4: channels 1, 3, 5, over a buffer that was all `FF` (R79). -/
theorem test_pack_three_no_residue :
    (outcomeState (exec .pack ((stateWith true 0 0 0b010101 #v[0, 0x111, 0, 0x222, 0, 0x333]).mapBlock
        fun b => { b with buf := Vector.replicate 9 0xFF }))).map (fun s => (s.block.frameLen, s.block.buf.toList))
      = some (5, [0x11, 0x12, 0x22, 0x33, 0x30, 0, 0, 0, 0]) := by decide

/-- 95 L1-8: the mask `111110` of 4095s unpacks to five of them. -/
theorem test_unpack : unpack [0xFF, 0xFF, 0xFF, 0xFF, 0xFF, 0xFF, 0xFF, 0xF0] 0b111110
    = [(0, 4095), (1, 4095), (2, 4095), (3, 4095), (4, 4095)] := by decide

/-! ### EMIT, TICK, RESET -/

/-- 95 2.5. -/
theorem test_emit_modes :
    emittedAfter (exec .emit (oneChannelPacked false 1)) = some []
      ∧ emittedAfter (exec .emit (oneChannelPacked true 0)) = some [⟨.wired, [0xAB, 0xC0]⟩]
      ∧ emittedAfter (exec .emit (oneChannelPacked true 1)) = some [⟨.wireless, [0xAB, 0xC0]⟩]
      ∧ emittedAfter (exec .emit (oneChannelPacked true 2)) = some [⟨.wired, [0xAB, 0xC0]⟩]
      ∧ emittedAfter (exec .emit (oneChannelPacked true 3)) = some [⟨.wired, [0xAB, 0xC0]⟩] := by decide

/-- 95 2.5, last row: an empty frame is emitted while streaming is on. -/
theorem test_emit_empty :
    emittedAfter (exec .emit (stateWith true 3 0 0 #v[0, 0, 0, 0, 0, 0])) = some [⟨.wired, []⟩] := by decide

/-- R88's example. -/
theorem test_tick_first_word :
    emittedAfter (exec (.tick (some 0x8FE0) none #v[4095, 0, 2048, 1, 4094, 17]) State.reset)
      = some [⟨.wired, [0xFF, 0xF0, 0x00, 0x80, 0x00, 0x01, 0xFF, 0xE0, 0x11]⟩] := by decide

/-- 95 P3 tick 3: the wireless word wins; P2 tick 3: with run 0 nothing is emitted and the frame is packed. -/
theorem test_tick_two_words_and_off :
    emittedAfter (exec (.tick (some 0x8FE0) (some 0xBFE0) #v[1, 2, 3, 4, 5, 6]) State.reset)
        = some [⟨.wireless, [0x00, 0x10, 0x02, 0x00, 0x30, 0x04, 0x00, 0x50, 0x06]⟩]
      ∧ emittedAfter (exec (.tick (some 0x07E0) none #v[1, 2, 3, 4, 5, 6]) State.reset) = some []
      ∧ frameAfter (exec (.tick (some 0x07E0) none #v[1, 2, 3, 4, 5, 6]) State.reset)
        = some [0x00, 0x10, 0x02, 0x00, 0x30, 0x04, 0x00, 0x50, 0x06] := by decide

/-- 95 2.6: RESET from any state. -/
theorem test_reset : (outcomeState (exec .reset (oneChannelPacked true 3))).map (·.block) = some Block.zero := by decide

/-- The host's words as the first event after reset: a word runs in its tick (R88), which emits channel 0's sample. -/
theorem test_step_from_reset :
    step (State.reset.withFetchWord 8 0b00) = .next State.reset
      ∧ cfgAfter (step (State.reset.withFetchWord 16 0xFFFF)) = some ⟨true, 3, 3⟩
      ∧ emittedAfter (step (State.reset.withFetchWord 16 0xA400)) = some [⟨.wireless, [0x00, 0x00]⟩]
      ∧ frameAfter (step (State.reset.withFetchWord 8 0b01)) = some [] := by
  refine ⟨rfl, ?_, ?_, ?_⟩ <;> decide

/-- R46: the rate port. -/
theorem test_rate_port : (stateWith true 0 0 0 #v[0, 0, 0, 0, 0, 0]).rateHz = 10
    ∧ (stateWith true 0 3 0 #v[0, 0, 0, 0, 0, 0]).rateHz = 1000 := by decide

/-- R53: `36832,` (bytes `33 36 38 33 32 2C`) delivers `0x8FE0`; without the comma it delivers nothing. -/
theorem test_text_word : deliverWord [0x33, 0x36, 0x38, 0x33, 0x32, 0x2C] = (some 0x8FE0, [])
    ∧ deliverWord [0x33, 0x36, 0x38, 0x33, 0x32] = (none, [0x33, 0x36, 0x38, 0x33, 0x32]) := ⟨rfl, rfl⟩

/-! ### Witnesses: a concrete state and operands that meet each obligation's hypotheses -/

/-- A state in the given phase at the given cursor. -/
def atCursor (p : Phase) (c : Fin 10) : State := State.reset.mapBlock fun b => { b with phase := p, cursor := c }

/-- A state whose collaborators answer as given. -/
def answeredBy (c : Collaborators) : State := { State.reset with collab := c }

theorem witness_DecodeIgnoresUnusedBits : ∀ n, 5 ≤ n → (0x8FE0 : Word16).getLsbD n = (0x8FFF : Word16).getLsbD n := by
  intro n h
  by_cases h16 : n < 16
  · interval_cases n <;> rfl
  · rw [BitVec.getLsbD_of_ge _ _ (by omega), BitVec.getLsbD_of_ge _ _ (by omega)]

/-- Two states that differ in the configuration, a flag and the value of the channel that is not kept. -/
theorem witness_DecodeDependsOnlyOnKeptValues :
    let s := stateWith true 0 0 0b110000 #v[5, 7, 0, 0, 0, 0]
    let t := stateWith false 1 2 0b100000 #v[5, 0, 0, 0, 0, 0]
    (∀ i : Fin 6, (0x8400 : Word16).getLsbD (10 - i.val) = true → s.block.table[i].value = t.block.table[i].value)
      ∧ s.block.buf = t.block.buf ∧ s.block.frameLen = t.block.frameLen ∧ s.block.cursor = t.block.cursor
      ∧ s.block.phase = t.block.phase ∧ SameSurroundings s t := by decide

theorem witness_DecodedRateIndexesTable :
    ((0x0000 : Word16).extractLsb' 11 2).toNat = (0 : Fin 4).val ∧ ((0x1800 : Word16).extractLsb' 11 2).toNat = (3 : Fin 4).val
      ∧ (0x0000 : Word16).extractLsb' 11 2 = 0 ∧ (0x0800 : Word16).extractLsb' 11 2 = 1
      ∧ (0x1000 : Word16).extractLsb' 11 2 = 2 ∧ (0x1800 : Word16).extractLsb' 11 2 = 3
      ∧ State.reset.params.rateHz = Config.defaults.rateHz := by decide

theorem witness_AcquireLoadsActiveChannels :
    (stateWith true 0 0 0b100000 #v[0, 0, 0, 0, 0, 0]).block.table[(0 : Fin 6)].active = true
      ∧ (stateWith true 0 0 0b100000 #v[0, 0, 0, 0, 0, 0]).block.table[(5 : Fin 6)].active = false := by decide

theorem witness_AcquireDiscardsInactiveSamples : ∀ i : Fin 6,
    (stateWith true 0 0 0b100000 #v[0, 0, 0, 0, 0, 0]).block.table[i].active = true →
      (#v[0x1ABC, 1, 1, 1, 1, 1] : Samples)[i] % 4096 = (#v[0xABC, 2, 2, 2, 2, 2] : Samples)[i] % 4096 := by decide

theorem witness_PhaseAWritesByteAndHighNibble :
    ((atCursor .A 0).block.phase = .A ∧ (atCursor .A 0).block.cursor.val ≤ 7)
      ∧ (atCursor .A 7).block.phase = .A ∧ (atCursor .A 7).block.cursor.val ≤ 7 := by decide

theorem witness_PhaseBWritesLowNibbleAndByte :
    ((atCursor .B 0).block.phase = .B ∧ (atCursor .B 0).block.cursor.val ≤ 7)
      ∧ (atCursor .B 7).block.phase = .B ∧ (atCursor .B 7).block.cursor.val ≤ 7 := by decide

theorem witness_PhasesStopOutsideTheirPhase :
    ((atCursor .A 8).block.phase = .A ∧ 8 ≤ (atCursor .A 8).block.cursor.val)
      ∧ (atCursor .B 8).block.phase = .B ∧ 8 ≤ (atCursor .B 8).block.cursor.val := by decide

theorem witness_PackPlacesSamplesByPosition :
    allActive.block.activeValues[0]? = some 1 ∧ allActive.block.activeValues[5]? = some 6 := by decide

theorem witness_OddFrameEndsInZeroNibble :
    (stateWith true 0 0 0b111110 #v[1, 2, 3, 4, 5, 0]).activeCount % 2 = 1
      ∧ (stateWith true 0 0 0b000000 #v[0, 0, 0, 0, 0, 0]).activeCount % 2 = 0 := by decide

/-- 95 2.4's last two rows. -/
theorem witness_PackDependsOnlyOnActiveValues :
    (stateWith true 0 0 0b010101 #v[0, 0x111, 0, 0x222, 0, 0x333]).block.activeValues
      = (stateWith true 0 0 0b101010 #v[0x111, 0, 0x222, 0, 0x333, 0]).block.activeValues := by decide

theorem witness_NoActiveChannelGivesEmptyFrame :
    (stateWith true 0 0 0 #v[0, 0, 0, 0, 0, 0]).activeCount = 0
      ∧ (stateWith true 0 0 0 #v[0, 0, 0, 0, 0, 0]).block.cfg.runState = true := by decide

theorem witness_EmitHandsFrameToSelectedTransport :
    ((oneChannelPacked true 1).block.cfg.runState = true ∧ (oneChannelPacked true 1).block.cfg.transportMode = 1)
      ∧ ((oneChannelPacked true 3).block.cfg.runState = true ∧ (oneChannelPacked true 3).block.cfg.transportMode ≠ 1)
      ∧ (oneChannelPacked false 1).block.cfg.runState = false := by decide

theorem witness_TickRunsItsOperationsInOrder :
    (State.reset.collab.missing = none ∧ State.reset.params.decodeFirst = true)
      ∧ ({ State.reset with params := { Config.defaults with decodeFirst := false } } : State).collab.missing = none := by
  decide

theorem witness_TickSendsFreshSamplesOfLastMask :
    State.reset.collab.missing = none ∧ State.reset.params.decodeFirst = true
      ∧ (some 0xBFE0 : Option Word16).or (some 0x8FE0) = some 0xBFE0 ∧ (none : Option Word16).or (some 0x8FE0) = some 0x8FE0
      ∧ (none : Option Word16).or none = none := by decide

theorem witness_WirelessWordOverridesWired :
    (State.reset.collab.missing = none ∧ State.reset.params.decodeFirst = true)
      ∧ ({ State.reset with params := { Config.defaults with decodeFirst := false } } : State).params.decodeFirst = false := by
  decide

theorem witness_WordSourceDoesNotMatter : State.reset.collab.missing = none := by decide

/-- One collaborator missing, each in turn, and the state before the fetch. -/
theorem witness_UnansweredTickHaltsForGood :
    (answeredBy ⟨false, true, true⟩).collab.acquisition = false ∧ (answeredBy ⟨true, false, true⟩).collab.wired = false
      ∧ (answeredBy ⟨true, true, false⟩).collab.wireless = false
      ∧ ({ State.reset with inbox := [⟨⟨0b01, none, none, Vector.replicate 6 0⟩, ⟨true, true, false⟩⟩] } : State).fetch
        = some (⟨0b01, none, none, Vector.replicate 6 0⟩, answeredBy ⟨true, true, false⟩)
      ∧ decode (.event ⟨0b01, none, none, Vector.replicate 6 0⟩) = .ok (.tick none none (Vector.replicate 6 0)) :=
  ⟨rfl, rfl, rfl, rfl, rfl⟩

theorem witness_ResetPutsBlockInResetState : allActive.params.resetWord = Config.defaults.resetWord := by decide

/-- A state after a frame of three bytes, with a tick waiting. -/
theorem witness_EveryStepKeepsInvariant :
    let s := ((stateWith true 0 0 0b110000 #v[1, 2, 0, 0, 0, 0]).mapBlock Block.pack).withFetchWord 8 0b01
    s.Inv ∧ (outcomeState (step s)).isSome = true := by decide

theorem witness_OnlyDecodeWritesConfigurationAndFlags :
    Instr.pack.format = .internal ∧ (outcomeState (exec .pack allActive)).isSome = true
      ∧ (outcomeState (exec (.tick none none #v[1, 1, 1, 1, 1, 1]) allActive)).isSome = true := by decide

theorem witness_StepEmitsAtMostOnce : (outcomeState (step (allActive.withFetchWord 8 0b01))).isSome = true := by decide

theorem witness_ExecStopsOnlyWhereNamed :
    allActive.collab.missing = none
      ∧ (∀ v : Word12, Instr.phaseA 0 = .phaseA v → (atCursor .A 7).block.phase = .A ∧ (atCursor .A 7).block.cursor.val ≤ 7)
      ∧ (∀ v : Word12, Instr.phaseA 0 = .phaseB v → (atCursor .A 7).block.phase = .B ∧ (atCursor .A 7).block.cursor.val ≤ 7) :=
  ⟨rfl, fun _ _ => by decide, fun _ h => by simp at h⟩

theorem witness_AnsweredRunsNeverStop :
    (State.reset.withFetchWord 8 0b01).Served ∧ (State.reset.withFetchWord 8 0b01).inbox ≠ []
      ∧ (State.reset.withFetchWord 8 0b01).Inv := by
  refine ⟨fun a ha => ?_, by decide, by decide⟩
  obtain rfl : a = ⟨⟨0b01, none, none, Vector.replicate 6 0⟩, Collaborators.answering⟩ := by
    simpa [State.withFetchWord, tableTransaction, Transaction.asEvent, State.reset] using ha
  exact ⟨rfl, _, rfl⟩

theorem witness_DecodeOfEncodeIsInstruction :
    (Instr.tick (some 0xFFFF) none #v[4095, 0, 0, 0, 0, 4095]).wf = true
      ∧ encode (.tick (some 0xFFFF) none #v[4095, 0, 0, 0, 0, 4095])
        = some (.event ⟨0b01, some 0xFFFF, none, #v[4095, 0, 0, 0, 0, 4095]⟩) := by decide

theorem witness_DecodedTransactionIsItsEncoding :
    decode (.event ⟨0b01, none, some 1, #v[0, 0, 0, 0, 0, 4095]⟩) = .ok (.tick none (some 1) #v[0, 0, 0, 0, 0, 4095])
      ∧ decode (.controlWord 0x001F) = .ok (.decode 0x001F)
      ∧ (Transaction.event ⟨0b01, none, some 1, #v[0, 0, 0, 0, 0, 4095]⟩).isEvent = true
      ∧ (Transaction.controlWord 0x001F).isEvent = false := ⟨rfl, rfl, rfl, rfl⟩

theorem witness_FieldRowDecodesUnderItsMask :
    encodeField (.cwCh5 false) = some (0x0020, 0x0000) ∧ (0xFFDF : Word16) &&& 0x0020 = 0x0000
      ∧ encodeField .cwMode3 = some (0x6000, 0x6000) ∧ (0xFFFF : Word16) &&& 0x6000 = 0x6000 := by decide

theorem witness_ReservedEventCodesAreRefused :
    ((⟨0b10, none, none, Vector.replicate 6 0⟩ : Event).ev = 0b10 ∧ (⟨0b11, none, none, Vector.replicate 6 0⟩ : Event).ev = 0b11)
      ∧ (State.reset.withFetchWord 8 0b10).inbox
        = [⟨⟨0b10, none, none, Vector.replicate 6 0⟩, Collaborators.answering⟩] := ⟨⟨rfl, rfl⟩, rfl⟩

theorem witness_StepRunsDecodedInstruction :
    (State.reset.withFetchWord 16 0x8FE0).inbox
        = ⟨⟨0b01, some 0x8FE0, none, Vector.replicate 6 0⟩, Collaborators.answering⟩ :: []
      ∧ decode (.event ⟨0b01, some 0x8FE0, none, Vector.replicate 6 0⟩)
        = .ok (.tick (some 0x8FE0) none (Vector.replicate 6 0)) := ⟨rfl, rfl⟩

theorem witness_StepWithoutArrivalWaits : allActive.inbox = [] := rfl

theorem witness_PlacedWordRunsNext :
    decodeTableWord 8 3 = none ∧ decodeTableWord 8 1 = some (.tick none none (Vector.replicate 6 0))
      ∧ decodeTableWord 8 4 = some (.decode 4) ∧ decodeTableWord 16 0xFFFF = some (.decode 0xFFFF) := by
  decide

/-- A RESET, a TICK and a waiting step, each completing. -/
theorem witness_EveryStepIsResetTickOrWait :
    (outcomeState (step (allActive.withFetchWord 8 0b00))).isSome = true
      ∧ (outcomeState (step (allActive.withFetchWord 8 0b01))).isSome = true
      ∧ (outcomeState (step allActive)).isSome = true := by decide

/-- No event, a tick without words, and a tick with one. -/
theorem witness_WordsReachTheBlockOnlyInTicks :
    (outcomeState (step allActive)).isSome = true ∧ allActive.inbox.head? = none
      ∧ (outcomeState (step (allActive.withFetchWord 8 0b01))).isSome = true
      ∧ (allActive.withFetchWord 8 0b01).inbox.head?
        = some ⟨⟨0b01, none, none, Vector.replicate 6 0⟩, Collaborators.answering⟩
      ∧ (outcomeState (step (allActive.withFetchWord 16 0x8400))).isSome = true
      ∧ (allActive.withFetchWord 16 0x8400).inbox.head?
        = some ⟨⟨0b01, some 0x8400, none, Vector.replicate 6 0⟩, Collaborators.answering⟩ := by decide

/-- `65535 ` and its neighbours in R53's range of digit bytes. -/
theorem witness_DigitsDeliverTheirValue :
    ([0x36, 0x35, 0x35, 0x33, 0x35] : List Byte) ≠ []
      ∧ (∀ d ∈ ([0x30, 0x39] : List Byte), 0x30 ≤ d.toNat ∧ d.toNat ≤ 0x39)
      ∧ (∀ d ∈ ([0x36, 0x35, 0x35, 0x33, 0x35] : List Byte), 0x30 ≤ d.toNat ∧ d.toNat ≤ 0x39)
      ∧ ¬ (0x30 ≤ (0x3A : Byte).toNat ∧ (0x3A : Byte).toNat ≤ 0x39)
      ∧ ¬ (0x30 ≤ (0x2F : Byte).toNat ∧ (0x2F : Byte).toNat ≤ 0x39)
      ∧ Nat.ofDigits 10 (([0x36, 0x35, 0x35, 0x33, 0x35] : List Byte).reverse.map fun d => d.toNat - 0x30) ≤ 65535 := by
  refine ⟨by decide, by decide, by decide, by decide, by decide, ?_⟩
  simp only [List.reverse_cons, List.reverse_nil, List.nil_append, List.cons_append, List.map_cons, List.map_nil, Nat.ofDigits]
  decide

theorem witness_UnterminatedDigitsDeliverNothing :
    ∀ d ∈ ([0x30, 0x39] : List Byte), 0x30 ≤ d.toNat ∧ d.toNat ≤ 0x39 := by decide

end Sys2Proof.Tests
end

/-! PROOFS. The family 10_state: the invariant of a run, the active channels, and who writes the configuration. -/

namespace Sys2Proof.Machine

/-! ### What DECODE configures (R43, R44, R57) -/

theorem Block.decodeWord_configuredBy (w : Word16) (b : Block) : (b.decodeWord w).ConfiguredBy w :=
  ⟨rfl, rfl, rfl, fun i => by rw [Block.decodeWord_entry]; rfl⟩

/-- RESET leaves no value, whichever channels the RESET_WORD selects (R110). -/
theorem Block.afterReset_value (w : Word16) (i : Fin 6) : (Block.afterReset w).table[i].value = 0 := by
  simp [Block.afterReset, Block.zero, Channel.select_value]

/-- With the default RESET_WORD the decode of R110 leaves every element 0. -/
theorem Block.afterReset_default : Block.afterReset Config.defaults.resetWord = Block.zero := by decide

/-! ### The invariant, on the block (R17, R23, R80) -/

/-- The three properties of `State.Inv`, on the block alone. -/
abbrev Block.Inv (b : Block) : Prop := b.TableInv ∧ b.TrailingZero ∧ b.FrameClosed

theorem State.inv_iff (s : State) : s.Inv ↔ s.block.Inv := Iff.rfl

theorem Block.zero_inv : Block.zero.Inv := by decide

/-- Staleness clearing (R58): DECODE gives R17 whatever the table held before. -/
theorem Block.decodeWord_tableInv (w : Word16) (b : Block) : (b.decodeWord w).TableInv := by
  intro i h
  rw [Block.decodeWord_entry, Channel.select_active] at h
  simp [Channel.select_value, h]

theorem Block.Inv.decodeWord {b : Block} (h : b.Inv) (w : Word16) : (b.decodeWord w).Inv :=
  ⟨b.decodeWord_tableInv w, h.2⟩

theorem Block.Inv.decodeOption {b : Block} (h : b.Inv) (cw : Option Word16) : (b.decodeOption cw).Inv := by
  cases cw with
  | none => exact h
  | some w => exact h.decodeWord w

theorem Block.Inv.decodeWords {b : Block} (h : b.Inv) (cwWired cwWireless : Option Word16) :
    (decodeWords cwWired cwWireless b).Inv :=
  (h.decodeOption cwWired).decodeOption cwWireless

/-- ACQUIRE writes active channels only (R68). -/
theorem Block.TableInv.acquire {b : Block} (h : b.TableInv) (samples : Samples) : (b.acquire samples).TableInv := by
  intro i hi
  rw [Block.acquire_entry, Channel.load_active] at hi
  rw [Block.acquire_entry, Channel.load_of_inactive hi]
  exact h i hi

/-- The frame of any table's values ends at its length (R33), and its length is the cursor and the pending byte. -/
theorem packValues_trailingZero_frameClosed (vs : List Word12) (h : vs.length ≤ 6) :
    (packValues vs).TrailingZero ∧ (packValues vs).FrameClosed := by
  refine packValues_cases (P := fun _ b => b.TrailingZero ∧ b.FrameClosed) ?_ ?_ ?_ ?_ ?_ ?_ ?_ vs h
  all_goals
    intros
    simp [packValues_none, packValues_one, packValues_two, packValues_three, packValues_four, packValues_five,
      packValues_six, Block.TrailingZero, Block.FrameClosed, Fin.forall_fin_succ]

/-- PACK gives R23 and R80 whatever the buffer held before (R79). -/
theorem Block.pack_trailingZero_frameClosed (b : Block) : b.pack.TrailingZero ∧ b.pack.FrameClosed := by
  obtain ⟨hbuf, hlen, hcursor, hphase⟩ := b.pack_eq_packValues
  simpa only [Block.TrailingZero, Block.FrameClosed, hbuf, hlen, hcursor, hphase] using
    packValues_trailingZero_frameClosed b.activeValues b.activeValues_length_le

theorem Block.TableInv.pack {b : Block} (h : b.TableInv) : b.pack.Inv :=
  ⟨by simpa only [Block.TableInv, Block.pack_table] using h, b.pack_trailingZero_frameClosed⟩

/-! ### The block after a tick (R88) -/

theorem State.tick_block (s : State) (cwWired cwWireless : Option Word16) (samples : Samples) :
    (s.tick cwWired cwWireless samples).block =
      if s.params.decodeFirst then ((decodeWords cwWired cwWireless s.block).acquire samples).pack
      else decodeWords cwWired cwWireless (s.block.acquire samples).pack := by
  unfold State.tick State.sampleAndSend
  split <;> simp

theorem State.Inv.tick {s : State} (h : s.Inv) (cwWired cwWireless : Option Word16) (samples : Samples) :
    (s.tick cwWired cwWireless samples).Inv := by
  rw [State.inv_iff, State.tick_block]
  split
  · exact ((Block.Inv.decodeWords h cwWired cwWireless).1.acquire samples).pack
  · exact ((h.1.acquire samples).pack).decodeWords cwWired cwWireless

theorem Block.afterReset_inv (w : Word16) : (Block.afterReset w).Inv := Block.zero_inv.decodeWord w

/-! ### The active channels (R18, R22, R71) -/

/-- R22: channel 0 is the mask port's most significant bit. -/
theorem Block.activeMask_getLsbD (b : Block) (i : Fin 6) : b.activeMask.getLsbD (5 - i.val) = b.table[i].active := by
  unfold Block.activeMask
  refine BitVec.getLsbD_append.trans ?_
  simp only [BitVec.getLsbD_append]
  fin_cases i <;> simp

/-- The number of 1 bits is the number of channels the mask selects. -/
theorem popcount_eq_length_maskChannels (m : BitVec 6) : popcount m = (maskChannels m).length := by
  have hrange : List.range 6 = ((List.finRange 6).map fun i => 5 - i.val).reverse := by decide
  rw [popcount, hrange, List.countP_reverse, List.countP_map, maskChannels, ← List.countP_eq_length_filter]
  rfl

theorem Block.maskChannels_activeMask (b : Block) :
    maskChannels b.activeMask = (List.finRange 6).filter fun i => b.table[i].active := by
  simp only [maskChannels, Block.activeMask_getLsbD]

/-- `activeList(T)` is the active channels in ascending order, each with its value (R71). -/
theorem Block.activeList_eq (b : Block) :
    b.activeList = ((List.finRange 6).filter fun i => b.table[i].active).map fun i => (i, b.table[i].value) := by
  unfold Block.activeList
  induction List.finRange 6 with
  | nil => rfl
  | cons i l ih => cases h : b.table[i].active <;> simp_all [Block.activeEntry]

theorem Block.activeCount_eq_length_activeList (b : Block) : b.activeCount = b.activeList.length := by
  rw [Block.activeCount, popcount_eq_length_maskChannels, Block.maskChannels_activeMask, Block.activeList_eq,
    List.length_map]

theorem Block.activeList_length_le (b : Block) : b.activeList.length ≤ 6 := by
  simpa [Block.activeValues] using b.activeValues_length_le

/-! ### Who writes the configuration (R20, R21) -/

/-- The configuration and every flag are the same. -/
abbrev Block.SameConfiguration (b c : Block) : Prop :=
  c.cfg = b.cfg ∧ ∀ i : Fin 6, c.table[i].active = b.table[i].active

theorem Block.SameConfiguration.refl (b : Block) : b.SameConfiguration b := ⟨rfl, fun _ => rfl⟩

theorem Block.SameConfiguration.activeMask_eq {b c : Block} (h : b.SameConfiguration c) :
    c.activeMask = b.activeMask := by
  have hflag (n : Nat) (hn : n < 6) : c.table[n].active = b.table[n].active := h.2 ⟨n, hn⟩
  simp only [Block.activeMask, hflag]

/-- The rate port is made of the parameters and the configuration (R59). -/
theorem State.rateHz_congr {s t : State} (hparams : t.params = s.params) (hcfg : t.block.cfg = s.block.cfg) :
    t.rateHz = s.rateHz := by
  simp only [State.rateHz, hparams, hcfg]

theorem Block.acquire_sameConfiguration (samples : Samples) (b : Block) : b.SameConfiguration (b.acquire samples) :=
  ⟨rfl, fun i => by rw [Block.acquire_entry, Channel.load_active]⟩

theorem Block.SameConfiguration.pack {b c : Block} (h : b.SameConfiguration c) : b.SameConfiguration c.pack := by
  simpa only [Block.SameConfiguration, Block.pack_cfg, Block.pack_table] using h

/-- A tick without words decodes nothing, in either order of DECODE_FIRST (R66, R88). -/
theorem State.tick_none_block (s : State) (samples : Samples) :
    (s.tick none none samples).block = (s.block.acquire samples).pack := by
  rw [State.tick_block]; split <;> rfl

theorem format_internal_cases {i : Instr} (h : i.format = .internal) :
    (∃ samples, i = .acquire samples) ∨ i = .pack ∨ (∃ v, i = .phaseA v) ∨ (∃ v, i = .phaseB v) ∨ i = .emit := by
  cases i <;> simp_all [Instr.format]

/-- An INTERNAL operation but DECODE keeps the configuration, the flags and the parameters. -/
theorem exec_internal_keeps {i : Instr} {s t : State} (hi : i.format = .internal) (h : exec i s = .next t) :
    s.block.SameConfiguration t.block ∧ t.params = s.params := by
  obtain ⟨samples, rfl⟩ | rfl | ⟨v, rfl⟩ | ⟨v, rfl⟩ | rfl := format_internal_cases hi
  · cases h
    exact ⟨s.block.acquire_sameConfiguration samples, rfl⟩
  · cases h
    exact ⟨(Block.SameConfiguration.refl s.block).pack, rfl⟩
  · obtain ⟨-, -, rfl⟩ := execPhaseA_eq_next.mp h
    exact ⟨.refl s.block, rfl⟩
  · obtain ⟨-, -, rfl⟩ := execPhaseB_eq_next.mp h
    exact ⟨.refl s.block, rfl⟩
  · cases h
    rw [State.emitFrame_block, State.emitFrame_params]
    exact ⟨.refl s.block, rfl⟩

theorem exec_tick_none_keeps {samples : Samples} {s t : State} (h : exec (.tick none none samples) s = .next t) :
    s.block.SameConfiguration t.block ∧ t.params = s.params := by
  obtain ⟨-, rfl⟩ := execTick_eq_next.mp h
  rw [State.tick_none_block, State.tick_params]
  exact ⟨(s.block.acquire_sameConfiguration samples).pack, rfl⟩

end Sys2Proof.Machine

namespace Sys2Proof.Proofs

open Sys2Proof Sys2Proof.Machine

/-- Settles O37, by what a step can do: it waits, or runs the RESET or the TICK its event decodes to. -/
theorem everyStepKeepsInvariant : Obligations.EveryStepKeepsInvariant := by
  unfold Obligations.EveryStepKeepsInvariant
  intro s t hs hstep
  obtain ⟨-, rfl⟩ | ⟨a, rest, i, -, hdecode, hexec⟩ := step_cases hstep
  · exact hs
  · obtain ⟨-, rfl⟩ | ⟨-, rfl⟩ := decode_event_cases.mp hdecode
    · cases hexec
      exact Block.afterReset_inv s.params.resetWord
    · obtain ⟨-, rfl⟩ := execTick_eq_next.mp hexec
      exact State.Inv.tick (s := { s with inbox := rest, collab := a.answers }) hs _ _ _

/-- Settles O17: the mask's 1 bits are the active channels, and those are the list's. -/
theorem activeCountCountsActiveList : Obligations.ActiveCountCountsActiveList := by
  unfold Obligations.ActiveCountCountsActiveList
  intro s
  have hcount : s.activeCount = s.block.activeList.length := s.block.activeCount_eq_length_activeList
  refine ⟨hcount, hcount.trans_le s.block.activeList_length_le, ?_, ?_⟩
  · simp [Block.activeList_eq, Function.comp_def]
  · intro p hp
    rw [Block.activeList_eq] at hp
    obtain ⟨i, hi, rfl⟩ := List.mem_map.mp hp
    exact ⟨(List.mem_filter.mp hi).2, rfl⟩

/-- Settles O39, operation by operation: the ports are made of what each of them keeps. -/
theorem onlyDecodeWritesConfigurationAndFlags : Obligations.OnlyDecodeWritesConfigurationAndFlags := by
  unfold Obligations.OnlyDecodeWritesConfigurationAndFlags
  intro i s t hi h
  obtain ⟨hconf, hparams⟩ : s.block.SameConfiguration t.block ∧ t.params = s.params := by
    obtain hi | ⟨samples, rfl⟩ := hi
    · exact exec_internal_keeps hi h
    · exact exec_tick_none_keeps h
  exact ⟨hconf.1, hconf.2, hconf.activeMask_eq, State.rateHz_congr hparams hconf.1⟩

/-- Settles O36: RESET is DECODE of the RESET_WORD in the zero block. -/
theorem resetPutsBlockInResetState : Obligations.ResetPutsBlockInResetState := by
  unfold Obligations.ResetPutsBlockInResetState
  intro s
  refine ⟨_, rfl, Block.decodeWord_configuredBy _ _, Block.afterReset_value _, ?_, rfl, rfl, rfl, ?_,
    rfl, rfl, rfl, rfl⟩
  · simp [Block.afterReset, Block.zero]
  · intro hword
    exact (congrArg Block.afterReset hword).trans Block.afterReset_default

/-- Settles O38: the zero block has the invariant, and the decode of the RESET_WORD keeps it. -/
theorem resetEstablishesInvariant : Obligations.ResetEstablishesInvariant :=
  ⟨Block.zero_inv, fun s => ⟨_, rfl, Block.afterReset_inv s.params.resetWord⟩⟩

end Sys2Proof.Proofs

/-! PROOFS. The family 20_memory: where the samples stand in the frame, and what a whole tick leaves and sends. -/

namespace Sys2Proof.Machine

/-! ### The nibbles of a written byte (R9, R29) -/

theorem setHighNibble_extract_high (x : Byte) (n : Nibble) : (setHighNibble x n).extractLsb' 4 4 = n := by
  ext i hi
  simp [-BitVec.getLsbD_eq_getElem, setHighNibble_getLsbD, hi, ← BitVec.getLsbD_eq_getElem hi]

theorem setLowNibble_extract_high (x : Byte) (n : Nibble) :
    (setLowNibble x n).extractLsb' 4 4 = x.extractLsb' 4 4 := by
  ext i hi
  simp [-BitVec.getLsbD_eq_getElem, BitVec.getElem_extractLsb', setLowNibble_getLsbD, show 4 + i < 8 by omega]

theorem setLowNibble_extract_low (x : Byte) (n : Nibble) : (setLowNibble x n).extractLsb' 0 4 = n := by
  ext i hi
  simp [-BitVec.getLsbD_eq_getElem, setLowNibble_getLsbD, hi, show i < 8 by omega, ← BitVec.getLsbD_eq_getElem hi]

/-! ### Where a sample stands (R29, R31) -/

/-- The sample `v` of position `j` stands in its byte and nibble, at byte `3 (j div 2)` (R29, R31). -/
def Block.PlacesSample (b : Block) (j : Nat) (v : Word12) : Prop :=
  (j % 2 = 0 → b.readByte (3 * (j / 2)) = highByte v
    ∧ (b.readByte (3 * (j / 2) + 1)).extractLsb' 4 4 = lowNibble v)
  ∧ (j % 2 = 1 → (b.readByte (3 * (j / 2) + 1)).extractLsb' 0 4 = highNibble v
    ∧ b.readByte (3 * (j / 2) + 2) = lowByte v)

/-- Every sample of the list stands in its place. -/
def Block.PlacesSamples (vs : List Word12) (b : Block) : Prop :=
  ∀ (j : Nat) (v : Word12), vs[j]? = some v → b.PlacesSample j v

/-- A property of every position of a list is one of its head and of the positions after it. -/
theorem forall_getElem?_cons {α : Type} {P : Nat → α → Prop} {a : α} {vs : List α} :
    (∀ j v, (a :: vs)[j]? = some v → P j v) ↔ P 0 a ∧ ∀ j v, vs[j]? = some v → P (j + 1) v := by
  rw [← Nat.and_forall_add_one]
  simp

theorem packValues_placesSamples (vs : List Word12) (h : vs.length ≤ 6) :
    (packValues vs).PlacesSamples vs := by
  refine packValues_cases (P := fun vs b => b.PlacesSamples vs) ?_ ?_ ?_ ?_ ?_ ?_ ?_ vs h
  all_goals
    intros
    simp [Block.PlacesSamples, forall_getElem?_cons, packValues_none, packValues_one, packValues_two,
      packValues_three, packValues_four, packValues_five, packValues_six, Block.PlacesSample, Block.readByte,
      setHighNibble_extract_high, setLowNibble_extract_high, setLowNibble_extract_low]

/-- The pass over any table places every active value (R79: the old buffer does not matter). -/
theorem Block.pack_placesSample (b : Block) {j : Nat} {v : Word12} (h : b.activeValues[j]? = some v) :
    b.pack.PlacesSample j v := by
  simpa only [Block.PlacesSample, Block.readByte, b.pack_eq_packValues.1] using
    packValues_placesSamples b.activeValues b.activeValues_length_le j v h

/-! ### The frame of a pass (R74, R82) -/

/-- The padding nibble after an odd number of samples (R81). -/
def paddingBits (n : Nat) : List Bool := if n % 2 = 1 then [false, false, false, false] else []

/-- `byteBits_pair` in front of the bytes that follow. -/
theorem byteBits_pair_append (a b : Word12) (rest : List Bool) :
    byteBits (highByte a) ++ (byteBits (sharedByte a b) ++ (byteBits (lowByte b) ++ rest))
      = sampleBits a ++ (sampleBits b ++ rest) := by
  simpa using congrArg (· ++ rest) (byteBits_pair a b)

theorem packValues_frameBits (vs : List Word12) (h : vs.length ≤ 6) :
    (packValues vs).frameBytes.flatMap byteBits = vs.flatMap sampleBits ++ paddingBits vs.length := by
  have hpair (a b : Word12) :
      byteBits (highByte a) ++ (byteBits (sharedByte a b) ++ byteBits (lowByte b)) = sampleBits a ++ sampleBits b := by
    simpa using byteBits_pair a b
  refine packValues_cases
    (P := fun vs b => b.frameBytes.flatMap byteBits = vs.flatMap sampleBits ++ paddingBits vs.length)
    ?_ ?_ ?_ ?_ ?_ ?_ ?_ vs h
  all_goals
    intros
    simp [packValues_none, packValues_one, packValues_two, packValues_three, packValues_four, packValues_five,
      packValues_six, Block.frameBytes, paddingBits, ← byteBits_last, byteBits_pair_append, hpair]

theorem packValues_frameLen (vs : List Word12) (h : vs.length ≤ 6) :
    (packValues vs).frameLen.val = frameLength vs.length := by
  refine packValues_cases (P := fun vs b => b.frameLen.val = frameLength vs.length) ?_ ?_ ?_ ?_ ?_ ?_ ?_ vs h
  all_goals
    intros
    simp [packValues_none, packValues_one, packValues_two, packValues_three, packValues_four, packValues_five,
      packValues_six, frameLength]

theorem Block.activeValues_length (b : Block) : b.activeValues.length = b.activeCount := by
  rw [Block.activeValues, List.length_map, Block.activeCount_eq_length_activeList]

/-- The frame is the bit string of the active values and the padding nibble (R82). -/
theorem Block.pack_frameBits (b : Block) :
    b.pack.frameBytes.flatMap byteBits = b.activeValues.flatMap sampleBits ++ paddingBits b.activeCount := by
  obtain ⟨hbuf, hlen, -, -⟩ := b.pack_eq_packValues
  rw [← b.activeValues_length, ← packValues_frameBits _ b.activeValues_length_le]
  simp only [Block.frameBytes, hbuf, hlen]

/-- The frame has the length of R74. -/
theorem Block.pack_frameLen (b : Block) : b.pack.frameLen.val = frameLength b.activeCount := by
  rw [b.pack_eq_packValues.2.1, packValues_frameLen _ b.activeValues_length_le, b.activeValues_length]

theorem Block.frameBytes_length (b : Block) : b.frameBytes.length = b.frameLen.val := by
  rw [Block.frameBytes, List.length_take, Vector.length_toList]; omega

/-! ### The words of a tick (R37, R63, R66) -/

/-- With a word, the last decode of the tick is that of the wireless word, or else of the wired one (R37). -/
theorem decodeWords_eq_decodeWord {cwWired cwWireless : Option Word16} {w : Word16}
    (h : cwWireless.or cwWired = some w) (b : Block) : ∃ c : Block, decodeWords cwWired cwWireless b = c.decodeWord w := by
  cases cwWireless with
  | none =>
    obtain rfl : cwWired = some w := by simpa using h
    exact ⟨b, rfl⟩
  | some w' =>
    obtain rfl : w' = w := by simpa using h
    exact ⟨b.decodeOption cwWired, rfl⟩

theorem Block.SameConfiguration.configuredBy {b c : Block} (h : b.SameConfiguration c) {w : Word16}
    (hb : b.ConfiguredBy w) : c.ConfiguredBy w := by
  obtain ⟨hcfg, hflag⟩ := h
  simpa only [Block.ConfiguredBy, hcfg, hflag] using hb

theorem Block.decodeWords_configuredBy {cwWired cwWireless : Option Word16} {w : Word16}
    (h : cwWireless.or cwWired = some w) (b : Block) : (decodeWords cwWired cwWireless b).ConfiguredBy w := by
  obtain ⟨c, hc⟩ := decodeWords_eq_decodeWord h b
  rw [hc]
  exact c.decodeWord_configuredBy w

/-- After the decodes an inactive channel is cleared where a word came (R58), and as it was where none did (R66). -/
theorem decodeWords_value_of_inactive {cwWired cwWireless : Option Word16} {b : Block} {i : Fin 6}
    (h : (decodeWords cwWired cwWireless b).table[i].active = false) :
    (decodeWords cwWired cwWireless b).table[i].value
      = if (cwWireless.or cwWired).isSome then 0 else b.table[i].value := by
  cases hw : cwWireless.or cwWired with
  | none =>
    obtain ⟨rfl, rfl⟩ := Option.or_eq_none_iff.mp hw
    rfl
  | some w =>
    obtain ⟨c, hc⟩ := decodeWords_eq_decodeWord hw b
    rw [hc] at h ⊢
    exact c.decodeWord_tableInv w i h

/-- A first DECODE adds its clearing to the second's result and nothing else (R63). -/
theorem Block.decodeWord_decodeWord_entry (w1 w2 : Word16) (b : Block) (i : Fin 6) :
    ((b.decodeWord w1).decodeWord w2).table[i]
      = ⟨(b.decodeWord w2).table[i].active, if channelBit w1 i then (b.decodeWord w2).table[i].value else 0⟩ := by
  simp only [Block.decodeWord_entry]
  cases channelBit w1 i <;> simp [Channel.select]

/-- ACQUIRE overwrites what a first DECODE could have cleared on the channels the second selects (R69). -/
theorem Block.acquire_decodeWord_decodeWord (w1 w2 : Word16) (samples : Samples) (b : Block) :
    ((b.decodeWord w1).decodeWord w2).acquire samples = (b.decodeWord w2).acquire samples := by
  refine Block.ext rfl (table_ext fun i => ?_) rfl rfl rfl rfl
  rw [Block.acquire_entry, Block.acquire_entry, Block.decodeWord_decodeWord_entry]
  cases hi : (b.decodeWord w2).table[i].active with
  | true => rw [Channel.load_of_active rfl, Channel.load_of_active hi]
  | false =>
    have hzero := b.decodeWord_tableInv w2 i hi
    exact congrArg (Channel.load samples[i]) (Channel.ext hi.symm (by rw [hzero, ite_self]))

/-! ### The samples of a tick (R68, R69) -/

/-- ACQUIRE makes the active values this tick's samples (R68, R71). -/
theorem Block.acquire_activeValues (samples : Samples) (b : Block) :
    (b.acquire samples).activeValues
      = ((List.finRange 6).filter fun i => b.table[i].active).map fun i => trunc12 samples[i] := by
  simp only [Block.activeValues_eq, Block.acquire_entry, Channel.load_active]
  refine List.map_congr_left fun i hi => ?_
  rw [Channel.load_of_active (List.mem_filter.mp hi).2]

theorem Block.SameConfiguration.activeCount_eq {b c : Block} (h : b.SameConfiguration c) :
    c.activeCount = b.activeCount := by
  rw [Block.activeCount, h.activeMask_eq, Block.activeCount]

theorem Block.acquire_pack_sameConfiguration (samples : Samples) (b : Block) :
    b.SameConfiguration (b.acquire samples).pack :=
  (b.acquire_sameConfiguration samples).pack

/-- The frame of ACQUIRE and PACK is the bit string of this tick's samples on the active channels (R69, R82). -/
theorem Block.acquire_pack_frameBits (samples : Samples) (b : Block) :
    (b.acquire samples).pack.frameBytes.flatMap byteBits
      = (((List.finRange 6).filter fun i => b.table[i].active).flatMap fun i => sampleBits (trunc12 samples[i]))
        ++ paddingBits b.activeCount := by
  rw [Block.pack_frameBits, Block.acquire_activeValues, List.flatMap_map,
    (b.acquire_sameConfiguration samples).activeCount_eq]

theorem Block.acquire_pack_frameLen (samples : Samples) (b : Block) :
    (b.acquire samples).pack.frameLen.val = frameLength b.activeCount := by
  rw [Block.pack_frameLen, (b.acquire_sameConfiguration samples).activeCount_eq]

/-! ### The emissions of a tick (R88, R92) -/

/-- EMIT hands over the frame at the output ports while streaming is on (R92, R93). -/
theorem State.emitFrame_emitted_ports (s : State) :
    s.emitFrame.emitted
      = s.emitted ++ (if s.emitFrame.emitValid then [⟨s.emitFrame.emitSel, s.emitFrame.frameOut⟩] else []) := by
  simp only [State.emitFrame_emitted, State.emitValid, State.emitSel, State.frameOut, State.emitFrame_block]

theorem State.tick_of_decodeFirst {s : State} (h : s.params.decodeFirst = true) (cwWired cwWireless : Option Word16)
    (samples : Samples) :
    s.tick cwWired cwWireless samples
      = (s.mapBlock fun b => ((decodeWords cwWired cwWireless b).acquire samples).pack).emitFrame := by
  simp [State.tick, State.sampleAndSend, h]

theorem State.tick_of_decodeLast {s : State} (h : s.params.decodeFirst = false) (cwWired cwWireless : Option Word16)
    (samples : Samples) :
    s.tick cwWired cwWireless samples
      = (s.sampleAndSend samples).mapBlock (decodeWords cwWired cwWireless) := by
  simp [State.tick, h]

end Sys2Proof.Machine

namespace Sys2Proof.Proofs

open Sys2Proof Sys2Proof.Machine

/-- Settles O22: each of a pass's samples stands in its place, whatever the buffer held. -/
theorem packPlacesSamplesByPosition : Obligations.PackPlacesSamplesByPosition := by
  unfold Obligations.PackPlacesSamplesByPosition
  exact fun s => ⟨_, rfl, fun j v h => s.block.pack_placesSample h⟩

/-- Settles O32, by the block after each part of the tick: the decodes, ACQUIRE, PACK. -/
theorem tickSendsFreshSamplesOfLastMask : Obligations.TickSendsFreshSamplesOfLastMask := by
  unfold Obligations.TickSendsFreshSamplesOfLastMask
  intro s cwWired cwWireless samples hanswer hfirst
  refine ⟨_, execTick_of_answered hanswer cwWired cwWireless samples, ?_⟩
  have htick := State.tick_of_decodeFirst hfirst cwWired cwWireless samples
  set t := s.tick cwWired cwWireless samples
  set b := decodeWords cwWired cwWireless s.block with hb
  have hblock : t.block = (b.acquire samples).pack := by simp [htick, hb]
  have hconf : b.SameConfiguration t.block := hblock ▸ b.acquire_pack_sameConfiguration samples
  have hentry (i : Fin 6) : t.block.table[i] = b.table[i].load samples[i] := by
    rw [hblock, Block.pack_table, Block.acquire_entry]
  have hcount : t.activeCount = b.activeCount := hconf.activeCount_eq
  refine ⟨fun w hw => hconf.configuredBy (Block.decodeWords_configuredBy hw s.block), fun hw => ?_, fun i hi => ?_,
    fun i hi => ?_, ?_, ?_, ?_, ?_, State.tick_params .., State.tick_collab .., State.tick_inbox ..⟩
  · obtain ⟨rfl, rfl⟩ := Option.or_eq_none_iff.mp hw
    exact hconf
  · rw [hconf.2] at hi
    rw [hentry, Channel.load_of_active hi]; rfl
  · rw [hconf.2] at hi
    rw [hentry, Channel.load_of_inactive hi]
    exact decodeWords_value_of_inactive hi
  · simp only [hcount, hconf.2]
    rw [State.frameOut, hblock]
    exact b.acquire_pack_frameBits samples
  · rw [State.frameOut, Block.frameBytes_length, hblock, Block.acquire_pack_frameLen, hcount]
  · exact hblock ▸ (b.acquire samples).pack_trailingZero_frameClosed.1
  · exact htick ▸ State.emitFrame_emitted_ports _

/-- Settles O33: the two ticks differ by one DECODE, which ACQUIRE hides where it comes after it. -/
theorem wirelessWordOverridesWired : Obligations.WirelessWordOverridesWired := by
  unfold Obligations.WirelessWordOverridesWired
  intro s w1 w2 samples hanswer
  refine ⟨_, _, execTick_of_answered hanswer _ _ samples, execTick_of_answered hanswer _ _ samples,
    fun hfirst => ?_, fun hlast => ?_⟩
  · simp only [State.tick_of_decodeFirst hfirst, State.mapBlock, decodeWords, Block.decodeOption,
      Block.acquire_decodeWord_decodeWord]
  · rw [State.tick_of_decodeLast hlast, State.tick_of_decodeLast hlast]
    generalize s.sampleAndSend samples = r
    refine ⟨rfl, rfl, ⟨fun _ => rfl, rfl, rfl, rfl, rfl⟩, fun i => ?_⟩
    exact Channel.ext_iff.mp (Block.decodeWord_decodeWord_entry w1 w2 r.block i)

end Sys2Proof.Proofs

/-! PROOFS. The family 30_encoding: transactions, the fields and the rows of a control word, and the input text. -/

namespace Sys2Proof.Machine

/-! ### The samples of an event (R25, R52, R67) -/

theorem samples_fit_iff {samples : Samples} : Samples.fit samples = true ↔ ∀ i : Fin 6, samples[i] < 4096 := by
  simp [Samples.fit]

/-- Samples that fit their ports arrive as they were sent (R25, R67). -/
theorem samples_ofPorts_toPorts {samples : Samples} (h : Samples.fit samples = true) :
    (Vector.ofFn fun i : Fin 6 => (Vector.ofFn fun j : Fin 6 => BitVec.ofNat 12 samples[j])[i].toNat) = samples := by
  ext i hi
  have hlt : samples[i] < 4096 := samples_fit_iff.mp h ⟨i, hi⟩
  simp [Nat.mod_eq_of_lt hlt]

theorem ports_toPorts_ofPorts (ports : SamplePorts) :
    (Vector.ofFn fun i : Fin 6 => BitVec.ofNat 12 (Vector.ofFn fun j : Fin 6 => ports[j].toNat)[i]) = ports := by
  ext i hi
  simp

theorem ports_fit (ports : SamplePorts) : Samples.fit (Vector.ofFn fun i : Fin 6 => ports[i].toNat) = true := by
  refine samples_fit_iff.mpr fun i => ?_
  simpa using (ports[i]).isLt

/-! ### Which instructions have a transaction (R42, R52) -/

theorem encode_eq_some_cases {i : Instr} {tr : Transaction} (h : encode i = some tr) :
    i = .reset ∨ (∃ a b samples, i = .tick a b samples) ∨ ∃ w, i = .decode w := by
  cases i <;> simp_all [encode]

/-- A TICK event is its TICK's encoding (R52). -/
theorem encode_event_tick {e : Event} (h : e.ev = 0b01) : encode e.tick = some (.event e) := by
  simp only [Event.tick, encode, ports_toPorts_ofPorts, ← h]

/-! ### The fields of a word (R43, R44, R49) -/

/-- A DECODE depends on the word's bits from 5 up (R47). -/
theorem Block.decodeWord_congr {w w' : Word16} (h : ∀ n, 5 ≤ n → w.getLsbD n = w'.getLsbD n) (b : Block) :
    b.decodeWord w = b.decodeWord w' := by
  have hfield (start len : Nat) (hs : 5 ≤ start) : w.extractLsb' start len = w'.extractLsb' start len :=
    BitVec.eq_of_getLsbD_eq fun n _ => by simp only [BitVec.getLsbD_extractLsb', h (start + n) (by omega)]
  have hbit (i : Fin 6) : channelBit w i = channelBit w' i := h (10 - i.val) (by omega)
  simp only [Block.decodeWord, Block.selectChannels, runStateField, transportModeField, rateCodeField,
    h 15 (by omega), hfield 13 2 (by omega), hfield 11 2 (by omega), hbit]

/-- The mask port after a DECODE is the word's mask field (R22, R44). -/
theorem Block.ConfiguredBy.activeMask_eq {w : Word16} {b : Block} (h : b.ConfiguredBy w) :
    b.activeMask = w.extractLsb' 5 6 := by
  obtain ⟨-, -, -, hflag⟩ := h
  refine BitVec.eq_of_getLsbD_eq fun n hn => ?_
  have hbit := b.activeMask_getLsbD ⟨5 - n, by omega⟩
  rw [hflag] at hbit
  simpa [show 5 - (5 - n) = n by omega, show 10 - (5 - n) = 5 + n by omega, hn] using hbit

theorem State.rateHz_eq_of_code {s : State} {c : Fin 4} (h : s.block.cfg.rateCode.toNat = c.val) :
    s.rateHz = s.params.rateHz[c] := by
  simp [State.rateHz, h]

theorem toNat_append_add {m n : Nat} (x : BitVec m) (y : BitVec n) : (x ++ y).toNat = x.toNat * 2 ^ n + y.toNat := by
  rw [BitVec.toNat_append, ← Nat.shiftLeft_add_eq_or_of_lt y.isLt, Nat.shiftLeft_eq]

theorem cw_toNat (run : Bool) (mode rate : BitVec 2) (mask : BitVec 6) :
    (cw run mode rate mask).toNat
      = run.toNat * 0x8000 + mode.toNat * 0x2000 + rate.toNat * 0x0800 + mask.toNat * 0x0020 := by
  simp only [cw, toNat_append_add, BitVec.toNat_ofBool]
  have hzero : (0 : BitVec 5).toNat = 0 := rfl
  omega

theorem cw_getLsbD_run (run : Bool) (mode rate : BitVec 2) (mask : BitVec 6) :
    (cw run mode rate mask).getLsbD 15 = run := by
  calc (cw run mode rate mask).getLsbD 15
      = (BitVec.ofBool run ++ mode ++ rate ++ mask).getLsbD 10 := BitVec.getLsbD_append
    _ = (BitVec.ofBool run ++ mode ++ rate).getLsbD 4 := BitVec.getLsbD_append
    _ = (BitVec.ofBool run ++ mode).getLsbD 2 := BitVec.getLsbD_append
    _ = (BitVec.ofBool run).getLsbD 0 := BitVec.getLsbD_append
    _ = run := by simp

theorem cw_extract_mode (run : Bool) (mode rate : BitVec 2) (mask : BitVec 6) :
    (cw run mode rate mask).extractLsb' 13 2 = mode := by
  calc (cw run mode rate mask).extractLsb' 13 2
      = (BitVec.ofBool run ++ mode ++ rate ++ mask).extractLsb' 8 2 := BitVec.extractLsb'_append_eq_of_le (by decide)
    _ = (BitVec.ofBool run ++ mode ++ rate).extractLsb' 2 2 := BitVec.extractLsb'_append_eq_of_le (by decide)
    _ = (BitVec.ofBool run ++ mode).extractLsb' 0 2 := BitVec.extractLsb'_append_eq_of_le (by decide)
    _ = mode := BitVec.extractLsb'_append_eq_right

theorem cw_extract_rate (run : Bool) (mode rate : BitVec 2) (mask : BitVec 6) :
    (cw run mode rate mask).extractLsb' 11 2 = rate := by
  calc (cw run mode rate mask).extractLsb' 11 2
      = (BitVec.ofBool run ++ mode ++ rate ++ mask).extractLsb' 6 2 := BitVec.extractLsb'_append_eq_of_le (by decide)
    _ = (BitVec.ofBool run ++ mode ++ rate).extractLsb' 0 2 := BitVec.extractLsb'_append_eq_of_le (by decide)
    _ = rate := BitVec.extractLsb'_append_eq_right

theorem cw_extract_mask (run : Bool) (mode rate : BitVec 2) (mask : BitVec 6) :
    (cw run mode rate mask).extractLsb' 5 6 = mask := by
  calc (cw run mode rate mask).extractLsb' 5 6
      = (BitVec.ofBool run ++ mode ++ rate ++ mask).extractLsb' 0 6 := BitVec.extractLsb'_append_eq_of_le (by decide)
    _ = mask := BitVec.extractLsb'_append_eq_right

theorem cw_extract_unused (run : Bool) (mode rate : BitVec 2) (mask : BitVec 6) :
    (cw run mode rate mask).extractLsb' 0 5 = 0 :=
  BitVec.extractLsb'_append_eq_right

theorem extractLsb'_one (w : Word16) (k : Nat) : w.extractLsb' k 1 = BitVec.ofBool (w.getLsbD k) := by
  ext i hi; simp [show i = 0 by omega]

/-- A word with its unused bits cleared is its other eleven bits in front of them (R47). -/
theorem and_usedBits (w : Word16) : w &&& 0xFFE0 = w.extractLsb' 5 11 ++ (0 : BitVec 5) := by
  have hword : w.extractLsb' 5 11 ++ w.extractLsb' 0 5 = w :=
    (BitVec.extractLsb'_append_extractLsb'_eq_extractLsb' rfl).trans BitVec.extractLsb'_eq_self
  calc w &&& 0xFFE0
      = (w.extractLsb' 5 11 ++ w.extractLsb' 0 5) &&& (BitVec.allOnes 11 ++ (0 : BitVec 5)) := by rw [hword]; rfl
    _ = w.extractLsb' 5 11 ++ (0 : BitVec 5) := by
      rw [BitVec.and_append, BitVec.and_allOnes]
      exact congrArg _ BitVec.and_zero

theorem cw_of_fields (w : Word16) :
    cw (w.getLsbD 15) (w.extractLsb' 13 2) (w.extractLsb' 11 2) (w.extractLsb' 5 6) = w &&& 0xFFE0 := by
  have hmode : w.extractLsb' 15 1 ++ w.extractLsb' 13 2 = w.extractLsb' 13 3 :=
    BitVec.extractLsb'_append_extractLsb'_eq_extractLsb' rfl
  have hrate : w.extractLsb' 13 3 ++ w.extractLsb' 11 2 = w.extractLsb' 11 5 :=
    BitVec.extractLsb'_append_extractLsb'_eq_extractLsb' rfl
  have hmask : w.extractLsb' 11 5 ++ w.extractLsb' 5 6 = w.extractLsb' 5 11 :=
    BitVec.extractLsb'_append_extractLsb'_eq_extractLsb' rfl
  rw [and_usedBits, cw, ← extractLsb'_one, hmode, hrate, hmask]

/-! ### The rows of a field (R55) -/

/-- The field `f` of a word at bit `k`, every other bit 0. -/
def placeField (k : Nat) {n : Nat} (f : BitVec n) : Word16 := f.setWidth 16 <<< k

/-- A mask of `n` bits at `k` leaves the field there. -/
theorem and_placeField_allOnes (w : Word16) (k n : Nat) :
    w &&& placeField k (BitVec.allOnes n) = placeField k (w.extractLsb' k n) := by
  refine BitVec.eq_of_getLsbD_eq fun i hi => ?_
  by_cases hk : i < k
  · simp [-BitVec.getLsbD_eq_getElem, placeField, hk]
  · simp [-BitVec.getLsbD_eq_getElem, placeField, hk, hi, show i - k < 16 by omega, show k + (i - k) = i by omega,
      Bool.and_comm]

/-- Rows of one field match by the field's value. -/
theorem filter_isMatch_of_mask {rows : List FieldRow} {k n : Nat}
    (hmask : ∀ r ∈ rows, r.mask = placeField k (BitVec.allOnes n)) (w : Word16) :
    rows.filter (·.isMatch w) = rows.filter fun r => placeField k (w.extractLsb' k n) == r.bits :=
  List.filter_congr fun r hr => by rw [FieldRow.isMatch, hmask r hr, and_placeField_allOnes]

/-- The run row's instruction for bit 15 (R42). -/
def runInstr (run : Bool) : Instr := if run then .cwRun1 else .cwRun0

/-- The mode row's instruction for bits 14..13 (R45). -/
def modeInstr (mode : BitVec 2) : Instr := #v[Instr.cwMode0, .cwMode1, .cwMode2, .cwMode3][mode.toNat]'mode.isLt

/-- The rate row's instruction for bits 12..11 (R46). -/
def rateInstr (rate : BitVec 2) : Instr := #v[Instr.cwRate0, .cwRate1, .cwRate2, .cwRate3][rate.toNat]'rate.isLt

/-- The row's instruction of channel `i` for its select bit (R44). -/
def channelInstr (i : Fin 6) (on : Bool) : Instr :=
  #v[Instr.cwCh0 on, .cwCh1 on, .cwCh2 on, .cwCh3 on, .cwCh4 on, .cwCh5 on][i]

/-- The two rows of channel `i`: bit `10 - i` set and clear. -/
def channelPair (i : Fin 6) : List FieldRow :=
  [⟨placeField (10 - i) (1 : BitVec 1), placeField (10 - i) (1 : BitVec 1), channelInstr i true⟩,
   ⟨placeField (10 - i) (1 : BitVec 1), placeField (10 - i) (0 : BitVec 1), channelInstr i false⟩]

theorem channelRows_eq : channelRows = (List.finRange 6).flatMap channelPair := by decide

theorem runRows_match (w : Word16) :
    (runRows.filter (·.isMatch w)).map (·.instr) = [runInstr (w.getLsbD 15)] := by
  rw [filter_isMatch_of_mask (k := 15) (n := 1) (by decide), extractLsb'_one]
  cases w.getLsbD 15 <;> decide

theorem modeRows_match (w : Word16) :
    (modeRows.filter (·.isMatch w)).map (·.instr) = [modeInstr (w.extractLsb' 13 2)] := by
  rw [filter_isMatch_of_mask (k := 13) (n := 2) (by decide)]
  generalize w.extractLsb' 13 2 = mode
  revert mode; decide

theorem rateRows_match (w : Word16) :
    (rateRows.filter (·.isMatch w)).map (·.instr) = [rateInstr (w.extractLsb' 11 2)] := by
  rw [filter_isMatch_of_mask (k := 11) (n := 2) (by decide)]
  generalize w.extractLsb' 11 2 = rate
  revert rate; decide

theorem channelPair_match (i : Fin 6) (w : Word16) :
    ((channelPair i).filter (·.isMatch w)).map (·.instr) = [channelInstr i (channelBit w i)] := by
  rw [filter_isMatch_of_mask (k := 10 - i) (n := 1) (by simp [channelPair]), extractLsb'_one, channelBit]
  generalize w.getLsbD (10 - i.val) = on
  revert i on; decide

theorem channelRows_match (w : Word16) :
    (channelRows.filter (·.isMatch w)).map (·.instr)
      = (List.finRange 6).map fun i => channelInstr i (channelBit w i) := by
  simp only [channelRows_eq, List.filter_flatMap, List.map_flatMap, channelPair_match]
  exact List.flatMap_pure_eq_map _ _

/-- The field rows of a word, by its fields (R55). -/
theorem fieldRows_eq (w : Word16) :
    fieldRows w = [runInstr (runStateField w), modeInstr (transportModeField w), rateInstr (rateCodeField w)]
      ++ (List.finRange 6).map fun i => channelInstr i (channelBit w i) := by
  simp only [fieldRows, allFieldRows, List.filter_append, List.map_append, runRows_match, modeRows_match,
    rateRows_match, channelRows_match]
  rfl

/-! ### What the rows write (R55, R57, R58) -/

theorem exec_runInstr (run : Bool) (s : State) :
    exec (runInstr run) s = .next (s.mapBlock (Block.setRunState run)) := by
  cases run <;> rfl

theorem bitVec2_cases (f : BitVec 2) : f = 0 ∨ f = 1 ∨ f = 2 ∨ f = 3 := by revert f; decide

theorem exec_modeInstr (mode : BitVec 2) (s : State) :
    exec (modeInstr mode) s = .next (s.mapBlock (Block.setTransportMode mode)) := by
  obtain rfl | rfl | rfl | rfl := bitVec2_cases mode <;> rfl

theorem exec_rateInstr (rate : BitVec 2) (s : State) :
    exec (rateInstr rate) s = .next (s.mapBlock (Block.setRateCode rate)) := by
  obtain rfl | rfl | rfl | rfl := bitVec2_cases rate <;> rfl

theorem exec_channelInstr (i : Fin 6) (on : Bool) (s : State) :
    exec (channelInstr i on) s = .next (s.mapBlock (Block.selectChannel i on)) := by
  fin_cases i <;> rfl

theorem selectsOnly_selectChannel (i : Fin 6) (on : Bool) (s : State) :
    SelectsOnly i on s (s.mapBlock (Block.selectChannel i on)) := by
  have hentry : (s.mapBlock (Block.selectChannel i on)).block.table[i] = s.block.table[i].select on :=
    Block.selectChannel_entry i on s.block
  refine ⟨by rw [hentry, Channel.select_active], by rw [hentry, Channel.select_value], fun j hj => ?_,
    rfl, ⟨fun _ => rfl, rfl, rfl, rfl, rfl⟩, rfl, rfl, rfl, rfl⟩
  exact Block.selectChannel_other hj on s.block

theorem execAll_cons_of_next {i : Instr} {s t : State} (h : exec i s = .next t) (rest : List Instr) :
    execAll (i :: rest) s = execAll rest t := by
  simp only [execAll, h]

/-- Instructions that each map the block, run in order, map it by each of them in turn. -/
theorem execAll_map_of_mapBlock {α : Type} {instr : α → Instr} {f : α → Block → Block}
    (h : ∀ a s, exec (instr a) s = .next (s.mapBlock (f a))) (l : List α) (s : State) :
    execAll (l.map instr) s = .next (s.mapBlock fun b => l.foldl (fun b a => f a b) b) := by
  induction l generalizing s with
  | nil => rfl
  | cons a l ih => rw [List.map_cons, execAll_cons_of_next (h a s), ih]; rfl

/-- Selecting channel by channel writes each entry once. -/
theorem foldl_selectChannel_entry (on : Fin 6 → Bool) {l : List (Fin 6)} (hl : l.Nodup) (b : Block) (j : Fin 6) :
    (l.foldl (fun b i => b.selectChannel i (on i)) b).table[j]
      = if j ∈ l then b.table[j].select (on j) else b.table[j] := by
  induction l generalizing b with
  | nil => rfl
  | cons i l ih =>
    obtain ⟨hi, hl⟩ := List.nodup_cons.mp hl
    rw [List.foldl_cons, ih hl]
    by_cases hj : j = i
    · subst hj
      rw [if_neg hi, if_pos List.mem_cons_self, Block.selectChannel_entry]
    · simp only [List.mem_cons, hj, false_or, Block.selectChannel_other hj]

theorem Block.selectChannels_eq_foldl (w : Word16) (b : Block) :
    b.selectChannels w = (List.finRange 6).foldl (fun b i => b.selectChannel i (channelBit w i)) b := by
  refine Block.ext rfl (table_ext fun j => ?_) rfl rfl rfl rfl
  rw [foldl_selectChannel_entry (channelBit w) (List.nodup_finRange 6), if_pos (List.mem_finRange j)]
  simp

/-- The rows' writes, one after another, are DECODE of the word (R56). -/
theorem execAll_fieldRows (w : Word16) (s : State) :
    execAll (fieldRows w) s = .next (s.mapBlock (Block.decodeWord w)) := by
  simp only [fieldRows_eq, List.cons_append, List.nil_append]
  rw [execAll_cons_of_next (exec_runInstr _ s), execAll_cons_of_next (exec_modeInstr _ _),
    execAll_cons_of_next (exec_rateInstr _ _), execAll_map_of_mapBlock fun i => exec_channelInstr i _]
  simp only [← Block.selectChannels_eq_foldl]
  rfl

/-! ### A row from its mask and match value (R55) -/

theorem encodeField_mem {i : Instr} {mask bits : Word16} (h : encodeField i = some (mask, bits)) :
    ⟨mask, bits, i⟩ ∈ allFieldRows := by
  cases i with
  | cwCh0 on | cwCh1 on | cwCh2 on | cwCh3 on | cwCh4 on | cwCh5 on =>
    cases h; cases on <;> decide
  | cwRun0 | cwRun1 | cwMode0 | cwMode1 | cwMode2 | cwMode3 | cwRate0 | cwRate1 | cwRate2 | cwRate3 =>
    cases h; decide
  | _ => cases h

theorem decodeField_bits : ∀ r ∈ allFieldRows, decodeField r.mask r.bits = some r.instr := by decide

/-- The bits outside the mask do not matter. -/
theorem decodeField_and_mask (mask w : Word16) : decodeField mask (w &&& mask) = decodeField mask w := by
  unfold decodeField
  congr 1
  refine List.find?_congr fun r hr => ?_
  have hmask : r.mask = mask := by simpa using (List.mem_filter.mp hr).2
  simp only [FieldRow.isMatch, hmask, BitVec.and_assoc, BitVec.and_self]

/-! ### Steps (R52, R87) -/

/-- A step is the instruction its event decodes to, in the state after the fetch (R87). -/
theorem step_of_decode_ok {s : State} {a : Arrival} {rest : List Arrival} {i : Instr} (hinbox : s.inbox = a :: rest)
    (hdecode : decode (.event a.event) = .ok i) :
    step s = exec i { s with inbox := rest, collab := a.answers } := by
  simp only [step, State.fetch_cons hinbox, hdecode]

theorem step_of_decode_error {s : State} {a : Arrival} {rest : List Arrival} {ev : BitVec 2}
    (hinbox : s.inbox = a :: rest) (hdecode : decode (.event a.event) = .error (.reservedEvent ev)) :
    step s = .refused (.reservedEvent ev) := by
  simp only [step, State.fetch_cons hinbox, hdecode]

/-- Codes 10 and 11 decode to nothing (R52). -/
theorem decode_event_reserved {e : Event} (h0 : e.ev ≠ 0b00) (h1 : e.ev ≠ 0b01) :
    decode (.event e) = .error (.reservedEvent e.ev) := by
  simp only [decode, decodeEvent, if_neg h0, if_neg h1]

theorem decodeTableWord_eq_some {nbits w : Nat} {i : Instr} :
    decodeTableWord nbits w = some i ↔ ∃ t, tableTransaction nbits w = some t ∧ decode t = .ok i := by
  unfold decodeTableWord
  cases tableTransaction nbits w with
  | none => simp
  | some t => cases h : decode t <;> simp [Except.toOption, h]

/-- The step after a placed word runs its event at the old inbox, every collaborator answering. -/
theorem step_withFetchWord {nbits w : Nat} {t : Transaction} {i : Instr} (ht : tableTransaction nbits w = some t)
    (hdecode : decode (.event t.asEvent) = .ok i) (s : State) :
    step (s.withFetchWord nbits w) = exec i { s with collab := Collaborators.answering } := by
  simp only [State.withFetchWord, ht]
  exact step_of_decode_ok (a := ⟨t.asEvent, Collaborators.answering⟩) rfl hdecode

theorem decode_asEvent_controlWord (w : Word16) :
    decode (.event (Transaction.controlWord w).asEvent) = .ok (.tick (some w) none (Vector.replicate 6 0)) := rfl

/-! ### The digits of a text (R53) -/

theorem isDigit_iff {c : Byte} : isDigit c = true ↔ 0x30 ≤ c.toNat ∧ c.toNat ≤ 0x39 := by simp [isDigit]

theorem digitsValue_eq_ofDigits (ds : List Byte) :
    digitsValue ds = Nat.ofDigits 10 (ds.reverse.map fun d => d.toNat - 0x30) := by
  simp [digitsValue, Nat.ofDigits_eq_foldr, List.foldl_map, Nat.add_comm]

/-- A number is complete at the first byte that is no digit (R53). -/
theorem completeNumber_append_cons {ds : List Byte} (hds : ∀ d ∈ ds, isDigit d = true) {e : Byte}
    (he : isDigit e = false) (rest : List Byte) : completeNumber (ds ++ e :: rest) = some (ds, rest) := by
  simp [completeNumber, List.dropWhile_append_of_pos hds, List.takeWhile_append_of_pos hds, he]

theorem wordOfDigits_of_le {ds : List Byte} (hne : ds ≠ []) (h : digitsValue ds ≤ 65535) :
    wordOfDigits ds = some (BitVec.ofNat 16 (digitsValue ds)) :=
  if_pos ⟨hne, h⟩

end Sys2Proof.Machine

namespace Sys2Proof.Proofs

open Sys2Proof Sys2Proof.Machine

/-- Settles O43, for the three instructions that have a transaction; a TICK's samples fit their ports. -/
theorem decodeOfEncodeIsInstruction : Obligations.DecodeOfEncodeIsInstruction := by
  unfold Obligations.DecodeOfEncodeIsInstruction
  intro i tr hwf h
  obtain rfl | ⟨a, b, samples, rfl⟩ | ⟨w, rfl⟩ := encode_eq_some_cases h
  · cases h; rfl
  · cases h
    exact congrArg (fun ports => Except.ok (Instr.tick a b ports)) (samples_ofPorts_toPorts hwf)
  · cases h; rfl

/-- Settles O3: DECODE reads the word's bits from 5 up only. -/
theorem decodeIgnoresUnusedBits : Obligations.DecodeIgnoresUnusedBits := by
  unfold Obligations.DecodeIgnoresUnusedBits
  intro s w w' h
  have hblock : Block.decodeWord w = Block.decodeWord w' := funext (Block.decodeWord_congr h)
  exact congrArg (fun f => Host.Outcome.next (s.mapBlock f)) hblock

/-- Settles O6: the rows of a word are one of run, mode and rate and one a channel, and each writes its own field. -/
theorem fieldRowsComposeToDecode : Obligations.FieldRowsComposeToDecode :=
  fun s w => execAll_fieldRows w s

/-- Settles O7: the rows a word matches in each group, by the value of the group's field. -/
theorem everyWordMatchesOneRowPerField : Obligations.EveryWordMatchesOneRowPerField := by
  unfold Obligations.EveryWordMatchesOneRowPerField
  intro w
  refine ⟨?_, ?_, ?_, channelRows_match w⟩
  · simpa using congrArg List.length (runRows_match w)
  · simpa using congrArg List.length (modeRows_match w)
  · simpa using congrArg List.length (rateRows_match w)

/-- Settles O11: each row is the write of its channel's entry. -/
theorem channelRowsSelectOneChannel : Obligations.ChannelRowsSelectOneChannel := by
  unfold Obligations.ChannelRowsSelectOneChannel
  intro s on
  have hrow (i : Fin 6) : ∃ t, exec (channelInstr i on) s = .next t ∧ SelectsOnly i on s t :=
    ⟨_, exec_channelInstr i on s, selectsOnly_selectChannel i on s⟩
  exact ⟨hrow 0, hrow 1, hrow 2, hrow 3, hrow 4, hrow 5⟩

/-- Settles O12: the mask port is made of the flags, and those are the word's bits. -/
theorem decodedMaskReadsBack : Obligations.DecodedMaskReadsBack := by
  unfold Obligations.DecodedMaskReadsBack
  intro s w
  have hconf := s.block.decodeWord_configuredBy w
  have hmask := hconf.activeMask_eq
  obtain ⟨-, -, -, hflag⟩ := hconf
  refine ⟨_, rfl, hmask, fun i => ⟨hflag i, ?_⟩⟩
  rw [← hmask]
  exact (Block.activeMask_getLsbD _ i).symm

/-- Settles O13: the rate port is the table's entry at the code, for each code. -/
theorem decodedRateIndexesTable : Obligations.DecodedRateIndexesTable := by
  unfold Obligations.DecodedRateIndexesTable
  intro s w
  have hrate (c : Fin 4) (h : (w.extractLsb' 11 2).toNat = c.val) :
      (s.mapBlock (Block.decodeWord w)).rateHz = s.params.rateHz[c] := State.rateHz_eq_of_code h
  refine ⟨_, rfl, hrate, fun htable => ⟨fun h => ?_, fun h => ?_, fun h => ?_, fun h => ?_⟩⟩
  · rw [hrate 0 (by rw [h]; rfl), htable]; rfl
  · rw [hrate 1 (by rw [h]; rfl), htable]; rfl
  · rw [hrate 2 (by rw [h]; rfl), htable]; rfl
  · rw [hrate 3 (by rw [h]; rfl), htable]; rfl

/-- Settles O44: an event is RESET or TICK by its code, and a TICK's samples are its ports'. -/
theorem decodedTransactionIsItsEncoding : Obligations.DecodedTransactionIsItsEncoding := by
  unfold Obligations.DecodedTransactionIsItsEncoding
  intro tr i h
  cases tr with
  | event e =>
    obtain ⟨-, rfl⟩ | ⟨hev, rfl⟩ := decode_event_cases.mp h
    · exact ⟨rfl, .inl rfl, fun _ => .inl rfl, nofun⟩
    · exact ⟨ports_fit e.samples, .inr (encode_event_tick hev), fun _ => .inr ⟨_, _, _, rfl⟩, nofun⟩
  | controlWord w =>
    cases h
    exact ⟨rfl, .inr rfl, nofun, fun _ => ⟨w, rfl⟩⟩

/-- Settles O45: the mask's bits of the word are the row's match value, and that is a row of the table. -/
theorem fieldRowDecodesUnderItsMask : Obligations.FieldRowDecodesUnderItsMask := by
  unfold Obligations.FieldRowDecodesUnderItsMask
  intro i mask bits w hrow hmatch
  rw [← decodeField_and_mask, hmatch]
  exact decodeField_bits _ (encodeField_mem hrow)

/-- Settles O46, field by field. -/
theorem composedWordHasItsFields : Obligations.ComposedWordHasItsFields := by
  unfold Obligations.ComposedWordHasItsFields
  refine ⟨fun run mode rate mask => ?_, cw_of_fields⟩
  exact ⟨cw_getLsbD_run run mode rate mask, cw_extract_mode run mode rate mask, cw_extract_rate run mode rate mask,
    cw_extract_mask run mode rate mask, cw_extract_unused run mode rate mask, cw_toNat run mode rate mask⟩

/-- Settles O52: the parser stops at the byte that is no digit, and its value is that of R53's sum. -/
theorem digitsDeliverTheirValue : Obligations.DigitsDeliverTheirValue := by
  unfold Obligations.DigitsDeliverTheirValue
  intro ds rest e hne hds he hvalue
  rw [← digitsValue_eq_ofDigits] at hvalue ⊢
  have hcomplete : completeNumber (ds ++ e :: rest) = some (ds, rest) :=
    completeNumber_append_cons (fun d hd => isDigit_iff.mpr (hds d hd)) (by simpa [isDigit] using he) rest
  refine ⟨BitVec.ofNat 16 (digitsValue ds), ?_, ?_⟩
  · simp only [deliverWord, hcomplete, wordOfDigits_of_le hne hvalue]
  · rw [BitVec.toNat_ofNat, Nat.mod_eq_of_lt (by omega)]

/-- Settles O8: each row is the write of its run bit. -/
theorem runRowsWriteRunState : Obligations.RunRowsWriteRunState :=
  fun s => ⟨exec_runInstr false s, exec_runInstr true s⟩

/-- Settles O9: each row is the write of its mode. -/
theorem modeRowsStoreRawMode : Obligations.ModeRowsStoreRawMode :=
  fun s => ⟨exec_modeInstr 0 s, exec_modeInstr 1 s, exec_modeInstr 2 s, exec_modeInstr 3 s⟩

/-- Settles O10: each row is the write of its rate code. -/
theorem rateRowsWriteRateCode : Obligations.RateRowsWriteRateCode :=
  fun s => ⟨exec_rateInstr 0 s, exec_rateInstr 1 s, exec_rateInstr 2 s, exec_rateInstr 3 s⟩

/-- Settles O47: such a code is neither RESET's nor TICK's. -/
theorem reservedEventCodesAreRefused : Obligations.ReservedEventCodesAreRefused := by
  unfold Obligations.ReservedEventCodesAreRefused
  intro e hev
  have hdecode : decode (.event e) = .error (.reservedEvent e.ev) := by
    obtain h | h := hev <;> exact decode_event_reserved (by simp [h]) (by simp [h])
  exact ⟨hdecode, fun s c rest hinbox => step_of_decode_error hinbox hdecode⟩

/-- Settles O50, for an event's word and for a control word. -/
theorem placedWordRunsNext : Obligations.PlacedWordRunsNext := by
  unfold Obligations.PlacedWordRunsNext
  intro s nbits w i h
  obtain ⟨t, ht, hdecode⟩ := decodeTableWord_eq_some.mp h
  cases t with
  | event e =>
    refine .inl ⟨?_, step_withFetchWord ht hdecode s⟩
    obtain ⟨-, rfl⟩ | ⟨-, rfl⟩ := decode_event_cases.mp hdecode <;> rfl
  | controlWord v =>
    cases hdecode
    exact .inr ⟨v, rfl, step_withFetchWord ht (decode_asEvent_controlWord v) s⟩

/-- Settles O51, by running the decoder on each word. -/
theorem writtenOutWordsDecode : Obligations.WrittenOutWordsDecode := by
  unfold Obligations.WrittenOutWordsDecode
  decide

end Sys2Proof.Proofs

/-! PROOFS. The family 40_decoder: what DECODE reads and writes, words in a tick, and runs that never stop. -/

namespace Sys2Proof.Machine

/-! ### Runs of served events (R60, R89, R97) -/

/-- What an event decodes to completes where every collaborator answers (R97, R98), and it takes no further event. -/
theorem exec_of_decode_event {e : Event} {i : Instr} (hdecode : decode (.event e) = .ok i) {s : State}
    (hanswer : s.collab.missing = none) : ∃ t : State, exec i s = .next t ∧ t.inbox = s.inbox := by
  obtain ⟨-, rfl⟩ | ⟨-, rfl⟩ := decode_event_cases.mp hdecode
  · exact ⟨_, rfl, rfl⟩
  · exact ⟨_, execTick_of_answered hanswer _ _ _, State.tick_inbox ..⟩

theorem step_of_inbox_nil {s : State} (h : s.inbox = []) : step s = .next s := by
  simp only [step, State.fetch_nil h]

/-- A step over served events takes one of them, or waits where there is none (R87, R110). -/
theorem State.Served.step_next {s : State} (h : s.Served) : ∃ t : State, step s = .next t ∧ t.inbox = s.inbox.tail := by
  cases hinbox : s.inbox with
  | nil => exact ⟨s, step_of_inbox_nil hinbox, hinbox⟩
  | cons a rest =>
    obtain ⟨hanswer, i, hdecode⟩ := h a (by simp [hinbox])
    rw [step_of_decode_ok hinbox hdecode]
    exact exec_of_decode_event hdecode hanswer

theorem State.Served.of_inbox_tail {s t : State} (h : s.Served) (htail : t.inbox = s.inbox.tail) : t.Served :=
  fun a ha => h a (List.mem_of_mem_tail (htail ▸ ha))

theorem run_succ_of_step {s t : State} (h : step s = .next t) (k : Nat) :
    Host.Core.run Sys2Proof.core (k + 1) s = Host.Core.run Sys2Proof.core k t := by
  have hcore : Sys2Proof.core.step s = .next t := h
  simp only [Host.Core.run, hcore]

/-- A run is safe if its first step completes and the rest of it is safe. -/
theorem SafeRun.succ {k : Nat} {s t : State} (hstep : step s = .next t) (htail : t.inbox = s.inbox.tail)
    (h : SafeRun k t) : SafeRun (k + 1) s := by
  obtain ⟨u, hrun, hinv, hinbox⟩ := h
  exact ⟨u, (run_succ_of_step hstep k).trans hrun, hinv, by rw [hinbox, htail, List.drop_tail]⟩

/-! ### What DECODE reads of the old state (R61, R62, R63) -/

/-- DECODE clears what it does not select, so of the table it reads the selected values alone, and of the configuration
nothing (R58, R61). -/
theorem Block.decodeWord_congr_of_selected {w : Word16} {b c : Block}
    (hvalue : ∀ i : Fin 6, channelBit w i = true → b.table[i].value = c.table[i].value) (hbuf : b.buf = c.buf)
    (hlen : b.frameLen = c.frameLen) (hcursor : b.cursor = c.cursor) (hphase : b.phase = c.phase) :
    b.decodeWord w = c.decodeWord w := by
  refine Block.ext rfl (table_ext fun i => ?_) hbuf hlen hcursor hphase
  rw [Block.decodeWord_entry, Block.decodeWord_entry]
  cases hbit : channelBit w i with
  | false => rfl
  | true => exact congrArg (Channel.mk true) (hvalue i hbit)

/-- The selected values are the old ones, so a second DECODE of the word finds what the first one read (R62). -/
theorem Block.decodeWord_idem (w : Word16) (b : Block) : (b.decodeWord w).decodeWord w = b.decodeWord w := by
  refine Block.decodeWord_congr_of_selected (fun i hbit => ?_) rfl rfl rfl rfl
  rw [Block.decodeWord_entry, Channel.select_value, if_pos hbit]

theorem Block.decodeWord_value (w : Word16) (b : Block) (i : Fin 6) :
    (b.decodeWord w).table[i].value = if channelBit w i then b.table[i].value else 0 := by
  rw [Block.decodeWord_entry, Channel.select_value]

/-- Both words clear: a value is kept where both select its channel (R63). -/
theorem Block.decodeWord_decodeWord_value (w1 w2 : Word16) (b : Block) (i : Fin 6) :
    ((b.decodeWord w1).decodeWord w2).table[i].value
      = if channelBit w1 i && channelBit w2 i then b.table[i].value else 0 := by
  rw [Block.decodeWord_entry, Block.decodeWord_entry, Channel.select_select]

/-! ### The word of a tick (R37, R65, R66) -/

/-- A tick with a word leaves the configuration of the last one, in either order of DECODE_FIRST (R37, R88). -/
theorem State.tick_configuredBy {cwWired cwWireless : Option Word16} {w : Word16}
    (h : cwWireless.or cwWired = some w) (s : State) (samples : Samples) :
    (s.tick cwWired cwWireless samples).block.ConfiguredBy w := by
  rw [State.tick_block]
  split
  · exact (Block.acquire_pack_sameConfiguration samples _).configuredBy (Block.decodeWords_configuredBy h s.block)
  · exact Block.decodeWords_configuredBy h _

/-- A word alone is the tick's only DECODE, whichever transport it comes from (R65). -/
theorem State.tick_wired_eq_wireless (s : State) (w : Word16) (samples : Samples) :
    s.tick (some w) none samples = s.tick none (some w) samples := rfl

end Sys2Proof.Machine

namespace Sys2Proof.Proofs

open Sys2Proof Sys2Proof.Machine

/-- Settles O42, by induction on the number of steps: each one completes, keeps the invariant and leaves served events. -/
theorem answeredRunsNeverStop : Obligations.AnsweredRunsNeverStop := by
  unfold Obligations.AnsweredRunsNeverStop
  intro k
  induction k with
  | zero => exact fun s _ hinv => ⟨s, rfl, hinv, rfl⟩
  | succ k ih =>
    intro s hserved hinv
    obtain ⟨t, hstep, htail⟩ := hserved.step_next
    exact SafeRun.succ hstep htail (ih t (hserved.of_inbox_tail htail) (everyStepKeepsInvariant s t hinv hstep))

/-- Settles O2: the second DECODE leaves the block of the first. -/
theorem decodeIsIdempotent : Obligations.DecodeIsIdempotent := by
  unfold Obligations.DecodeIsIdempotent
  intro s w
  refine ⟨_, rfl, ?_⟩
  exact congrArg (fun b => Host.Outcome.next { s with block := b }) (s.block.decodeWord_idem w)

/-- Settles O4: the two states decode to the same block, in the same surroundings. -/
theorem decodeDependsOnlyOnKeptValues : Obligations.DecodeDependsOnlyOnKeptValues := by
  unfold Obligations.DecodeDependsOnlyOnKeptValues
  intro s s' w hvalue hbuf hlen hcursor hphase hsame
  obtain ⟨hparams, hcollab, hinbox, hemitted⟩ := hsame
  refine ⟨_, rfl, congrArg Host.Outcome.next ?_⟩
  exact State.ext (Block.decodeWord_congr_of_selected hvalue hbuf hlen hcursor hphase).symm
    hparams hcollab hinbox hemitted

/-- Settles O5: the second DECODE writes over the first one's configuration, and both clear. -/
theorem secondDecodeConfiguresBothClear : Obligations.SecondDecodeConfiguresBothClear := by
  unfold Obligations.SecondDecodeConfiguresBothClear
  intro s w1 w2
  exact ⟨_, rfl, Block.decodeWord_configuredBy w2 _, s.block.decodeWord_decodeWord_value w1 w2,
    ⟨fun _ => rfl, rfl, rfl, rfl, rfl⟩, rfl, rfl, rfl, rfl⟩

/-- Settles O55, by what a step can do: a wait and a tick without words keep the configuration, a tick with a word
takes the last word's. -/
theorem wordsReachTheBlockOnlyInTicks : Obligations.WordsReachTheBlockOnlyInTicks := by
  unfold Obligations.WordsReachTheBlockOnlyInTicks
  intro s t hstep
  obtain ⟨hinbox, rfl⟩ | ⟨a, rest, i, hinbox, hdecode, hexec⟩ := step_cases hstep
  · exact ⟨fun _ => Block.SameConfiguration.refl t.block, by simp [hinbox]⟩
  · simp only [hinbox, List.head?_cons, Option.mem_some_iff, forall_eq']
    obtain ⟨hreset, -⟩ | ⟨-, rfl⟩ := decode_event_cases.mp hdecode
    · exact ⟨fun h => absurd hreset h.1, fun h => absurd hreset h⟩
    · refine ⟨fun ⟨_, hwired, hwireless⟩ => ?_, fun _ w hw => ?_⟩
      · rw [Event.tick, hwired, hwireless] at hexec
        exact (exec_tick_none_keeps hexec).1
      · obtain ⟨-, rfl⟩ := execTick_eq_next.mp hexec
        exact State.tick_configuredBy hw _ _

/-- Settles O1: the word's fields, each entry's new value, and the frame. -/
theorem decodeWritesConfigurationAndTable : Obligations.DecodeWritesConfigurationAndTable := by
  unfold Obligations.DecodeWritesConfigurationAndTable
  intro s w
  exact ⟨_, rfl, s.block.decodeWord_configuredBy w, s.block.decodeWord_value w,
    ⟨fun _ => rfl, rfl, rfl, rfl, rfl⟩, rfl, rfl, rfl, rfl⟩

/-- Settles O34: both ticks complete, and they are the same tick. -/
theorem wordSourceDoesNotMatter : Obligations.WordSourceDoesNotMatter := by
  unfold Obligations.WordSourceDoesNotMatter
  intro s w samples hanswer
  refine ⟨_, execTick_of_answered hanswer _ _ samples, ?_⟩
  rw [s.tick_wired_eq_wireless]
  exact execTick_of_answered hanswer _ _ samples

end Sys2Proof.Proofs

/-! PROOFS. The family 41_activation_table: what ACQUIRE writes to the active channels and reads of its samples. -/

namespace Sys2Proof.Machine

/-! ### What ACQUIRE reads and writes (R67, R68, R73) -/

theorem Block.acquire_entry_of_active {b : Block} {i : Fin 6} (h : b.table[i].active = true) (samples : Samples) :
    (b.acquire samples).table[i] = ⟨true, trunc12 samples[i]⟩ := by
  rw [Block.acquire_entry, Channel.load_of_active h]

theorem Block.acquire_entry_of_inactive {b : Block} {i : Fin 6} (h : b.table[i].active = false) (samples : Samples) :
    (b.acquire samples).table[i] = b.table[i] := by
  rw [Block.acquire_entry, Channel.load_of_inactive h]

/-- ACQUIRE changes no flag, so a second one loads the same samples into the same channels (R73). -/
theorem Block.acquire_idem (samples : Samples) (b : Block) :
    (b.acquire samples).acquire samples = b.acquire samples := by
  refine Block.ext rfl (table_ext fun i => ?_) rfl rfl rfl rfl
  rw [Block.acquire_entry, Block.acquire_entry, Channel.load_idem]

/-- Of its samples ACQUIRE reads the low 12 bits on the active channels (R67, R68). -/
theorem Block.acquire_congr_of_active {x y : Samples} {b : Block}
    (h : ∀ i : Fin 6, b.table[i].active = true → x[i] % 4096 = y[i] % 4096) : b.acquire x = b.acquire y := by
  refine Block.ext rfl (table_ext fun i => ?_) rfl rfl rfl rfl
  cases hi : b.table[i].active with
  | false => rw [Block.acquire_entry_of_inactive hi, Block.acquire_entry_of_inactive hi]
  | true => rw [Block.acquire_entry_of_active hi, Block.acquire_entry_of_active hi, trunc12_congr (h i hi)]

/-- ACQUIRE completes from every state, with the acquired block and the surroundings it found (R68). -/
theorem exec_acquire_of_eq {s : State} {samples : Samples} {b : Block} (h : s.block.acquire samples = b) :
    exec (.acquire samples) s = .next { s with block := b } := by
  rw [← h]; rfl

end Sys2Proof.Machine

namespace Sys2Proof.Proofs

open Sys2Proof Sys2Proof.Machine

/-- Settles O14: an active entry is loaded, an inactive one is kept, and so is everything outside the table. -/
theorem acquireLoadsActiveChannels : Obligations.AcquireLoadsActiveChannels := by
  unfold Obligations.AcquireLoadsActiveChannels
  intro s samples
  refine ⟨_, exec_acquire_of_eq rfl, fun i hi => ?_,
    fun i hi => Block.acquire_entry_of_inactive hi samples, rfl, ⟨fun _ => rfl, rfl, rfl, rfl, rfl⟩,
    rfl, rfl, rfl, rfl⟩
  rw [Block.acquire_entry_of_active hi]
  exact ⟨rfl, trunc12_toNat samples[i]⟩

/-- Settles O15: the second ACQUIRE leaves the block of the first. -/
theorem acquireIsIdempotent : Obligations.AcquireIsIdempotent := by
  unfold Obligations.AcquireIsIdempotent
  intro s samples
  exact ⟨_, exec_acquire_of_eq rfl, exec_acquire_of_eq (s.block.acquire_idem samples)⟩

/-- Settles O16: both sample vectors load the same low 12 bits into the active channels. -/
theorem acquireDiscardsInactiveSamples : Obligations.AcquireDiscardsInactiveSamples := by
  unfold Obligations.AcquireDiscardsInactiveSamples
  intro s x y h
  exact ⟨_, exec_acquire_of_eq rfl, exec_acquire_of_eq (Block.acquire_congr_of_active h).symm⟩

end Sys2Proof.Proofs

/-! PROOFS. The family 42_packer: the two phases byte by byte, what a pass leaves in the packer, and the round trip
with the reference unpacker. -/

namespace Sys2Proof.Machine

/-! ### The phases byte by byte (R29, R75, R76) -/

theorem setHighNibble_extract_low (x : Byte) (n : Nibble) :
    (setHighNibble x n).extractLsb' 0 4 = x.extractLsb' 0 4 := by
  ext i hi
  simp [-BitVec.getLsbD_eq_getElem, BitVec.getElem_extractLsb', setHighNibble_getLsbD, hi]

theorem Block.readByte_writeByte_same {j : Nat} (h : j ≤ 8) (x : Byte) (b : Block) :
    (b.writeByte j x).readByte j = x := by
  simp [Block.readByte, show j < 9 by omega]

theorem Block.readByte_writeByte_of_ne {j k : Nat} (h : k ≠ j) (x : Byte) (b : Block) :
    (b.writeByte j x).readByte k = b.readByte k := by
  simp [Block.readByte, h.symm]

theorem Block.readByte_phaseA_fresh {b : Block} (h : b.cursor.val ≤ 7) (v : Word12) :
    (b.phaseA v).readByte b.cursor = highByte v :=
  (Block.readByte_writeByte_of_ne (by omega) _ _).trans (Block.readByte_writeByte_same (by omega) _ b)

/-- The pending byte keeps its low nibble, since the fresh byte's write does not reach it. -/
theorem Block.readByte_phaseA_pending {b : Block} (h : b.cursor.val ≤ 7) (v : Word12) :
    (b.phaseA v).readByte (b.cursor + 1) = setHighNibble (b.readByte (b.cursor + 1)) (lowNibble v) := by
  rw [← Block.readByte_writeByte_of_ne (j := b.cursor) (by omega) (highByte v) b]
  exact Block.readByte_writeByte_same (by omega) _ _

theorem Block.readByte_phaseA_of_ne {b : Block} {j : Nat} (h0 : j ≠ b.cursor.val) (h1 : j ≠ b.cursor.val + 1)
    (v : Word12) : (b.phaseA v).readByte j = b.readByte j :=
  (Block.readByte_writeByte_of_ne h1 _ _).trans (Block.readByte_writeByte_of_ne h0 _ b)

theorem Block.readByte_phaseB_pending {b : Block} (h : b.cursor.val ≤ 7) (v : Word12) :
    (b.phaseB v).readByte b.cursor = setLowNibble (b.readByte b.cursor) (highNibble v) :=
  (Block.readByte_writeByte_of_ne (by omega) _ _).trans (Block.readByte_writeByte_same (by omega) _ b)

theorem Block.readByte_phaseB_fresh {b : Block} (h : b.cursor.val ≤ 7) (v : Word12) :
    (b.phaseB v).readByte (b.cursor + 1) = lowByte v :=
  Block.readByte_writeByte_same (by omega) _ _

theorem Block.readByte_phaseB_of_ne {b : Block} {j : Nat} (h0 : j ≠ b.cursor.val) (h1 : j ≠ b.cursor.val + 1)
    (v : Word12) : (b.phaseB v).readByte j = b.readByte j :=
  (Block.readByte_writeByte_of_ne h1 _ _).trans (Block.readByte_writeByte_of_ne h0 _ b)

/-- Inside the buffer the cursor does not wrap (log entry 1). -/
theorem Block.phaseA_cursor_val {b : Block} (h : b.cursor.val ≤ 7) (v : Word12) :
    (b.phaseA v).cursor.val = b.cursor.val + 1 :=
  Fin.val_add_eq_of_add_lt (b := 1) (show b.cursor.val + 1 < 10 by omega)

theorem Block.phaseB_cursor_val {b : Block} (h : b.cursor.val ≤ 7) (v : Word12) :
    (b.phaseB v).cursor.val = b.cursor.val + 2 :=
  Fin.val_add_eq_of_add_lt (b := 2) (show b.cursor.val + 2 < 10 by omega)

/-- `phaseFits` is the bound of R27: the second of the phase's two bytes lies in the buffer. -/
theorem Block.phaseFits_eq_false {b : Block} (h : 8 ≤ b.cursor.val) : b.phaseFits = false :=
  decide_eq_false (by omega)

/-! ### The packer after a pass (R80, R81, R84, R85) -/

theorem packValues_cursor_phase (vs : List Word12) (h : vs.length ≤ 6) :
    (packValues vs).cursor.val = 3 * (vs.length / 2) + vs.length % 2
      ∧ ((packValues vs).phase = .A ↔ vs.length % 2 = 0) := by
  refine packValues_cases
    (P := fun vs b => b.cursor.val = 3 * (vs.length / 2) + vs.length % 2 ∧ (b.phase = .A ↔ vs.length % 2 = 0))
    ?_ ?_ ?_ ?_ ?_ ?_ ?_ vs h
  all_goals
    intros
    simp [packValues_none, packValues_one, packValues_two, packValues_three, packValues_four, packValues_five,
      packValues_six]

/-- The cursor and the phase count the samples of the pass (R80). -/
theorem Block.pack_cursor_phase (b : Block) :
    b.pack.cursor.val = 3 * (b.activeCount / 2) + b.activeCount % 2
      ∧ (b.pack.phase = .A ↔ b.activeCount % 2 = 0) := by
  obtain ⟨-, -, hcursor, hphase⟩ := b.pack_eq_packValues
  rw [hcursor, hphase, ← b.activeValues_length]
  exact packValues_cursor_phase b.activeValues b.activeValues_length_le

/-- The last byte of an odd frame is a pending one: PHASE_A left its low nibble as the clear did (R75, R79). -/
theorem packValues_last_lowNibble (vs : List Word12) (h : vs.length ≤ 6) (hodd : vs.length % 2 = 1) :
    ((packValues vs).readByte ((packValues vs).frameLen.val - 1)).extractLsb' 0 4 = 0 := by
  refine packValues_cases
    (P := fun vs b => vs.length % 2 = 1 → (b.readByte (b.frameLen.val - 1)).extractLsb' 0 4 = 0)
    ?_ ?_ ?_ ?_ ?_ ?_ ?_ vs h hodd
  all_goals
    intros
    simp_all [packValues_one, packValues_three, packValues_five, Block.readByte, setHighNibble_extract_low]

theorem Block.pack_last_lowNibble {b : Block} (hodd : b.activeCount % 2 = 1) :
    (b.pack.readByte (b.pack.frameLen.val - 1)).extractLsb' 0 4 = 0 := by
  obtain ⟨hbuf, hlen, -, -⟩ := b.pack_eq_packValues
  rw [← b.activeValues_length] at hodd
  simpa only [Block.readByte, hbuf, hlen] using
    packValues_last_lowNibble b.activeValues b.activeValues_length_le hodd

theorem Block.pack_congr {b c : Block} (h : b.activeValues = c.activeValues) :
    b.pack.buf = c.pack.buf ∧ b.pack.frameLen = c.pack.frameLen ∧ b.pack.cursor = c.pack.cursor
      ∧ b.pack.phase = c.pack.phase := by
  simp only [Block.pack_eq_packValues, h, and_self]

@[simp] theorem Block.pack_activeValues (b : Block) : b.pack.activeValues = b.activeValues := by
  simp only [Block.activeValues_eq, Block.pack_table]

/-- PACK reads the table alone, and leaves it as it is (R85). -/
theorem Block.pack_idem (b : Block) : b.pack.pack = b.pack := by
  obtain ⟨hbuf, hlen, hcursor, hphase⟩ := Block.pack_congr b.pack_activeValues
  exact Block.ext b.pack.pack_cfg b.pack.pack_table hbuf hlen hcursor hphase

/-- PACK completes from every state, with the packed block and the surroundings it found (R77). -/
theorem exec_pack_of_eq {s : State} {b : Block} (h : s.block.pack = b) :
    exec .pack s = .next { s with block := b } := by
  rw [← h]; rfl

/-! ### The round trip (R86) -/

/-- The twelve bits at place `12 j` of the samples' bit string are sample `j`'s, whatever follows the string. -/
theorem sampleBits_window {vs : List Word12} {j : Nat} {v : Word12} (h : vs[j]? = some v) (rest : List Bool) :
    ((vs.flatMap sampleBits ++ rest).drop (12 * j)).take 12 = sampleBits v := by
  induction vs generalizing j with
  | nil => simp at h
  | cons u vs ih =>
    rw [List.flatMap_cons, List.append_assoc]
    cases j with
    | zero =>
      obtain rfl : u = v := by simpa using h
      exact List.take_left' (sampleBits_length u)
    | succ j =>
      rw [Nat.mul_succ, Nat.add_comm, ← List.drop_drop, List.drop_left' (sampleBits_length u)]
      exact ih (by simpa using h)

/-- UNPACK of a bit string of samples gives the mask's channels those samples, in order. -/
theorem unpack_eq_zip {bytes : List Byte} {mask : BitVec 6} {vs : List Word12} {rest : List Bool}
    (hbytes : bytes.length ≤ frameLength (popcount mask))
    (hbits : bytes.flatMap byteBits = vs.flatMap sampleBits ++ rest) (hvs : vs.length = (maskChannels mask).length) :
    unpack bytes mask = (maskChannels mask).zip vs := by
  apply List.ext_getElem
  · simp [unpack, hvs]
  · intro j hj hj'
    have hv : j < vs.length := by simpa [hvs] using hj'
    simp [unpack, List.take_of_length_le hbytes, hbits, sampleBits_window (List.getElem?_eq_getElem hv),
      sampleOfBits_sampleBits]

theorem Block.activeList_eq_zip (b : Block) : b.activeList = (maskChannels b.activeMask).zip b.activeValues :=
  List.zip_of_prod (by rw [b.activeList_eq, b.maskChannels_activeMask, List.map_map]; exact List.map_id _) rfl

/-- The frame of a pass unpacks to the list it was packed from. -/
theorem Block.unpack_pack (b : Block) : unpack b.pack.frameBytes b.activeMask = b.activeList := by
  rw [Block.activeList_eq_zip]
  refine unpack_eq_zip (Nat.le_of_eq ?_) b.pack_frameBits ?_
  · rw [Block.frameBytes_length, Block.pack_frameLen, Block.activeCount]
  · rw [Block.activeValues_length, Block.activeCount, popcount_eq_length_maskChannels]

end Sys2Proof.Machine

namespace Sys2Proof.Proofs

open Sys2Proof Sys2Proof.Machine

/-- Settles O28: the frame's bit string is the samples', cut again every twelve bits. -/
theorem unpackRestoresActiveList : Obligations.UnpackRestoresActiveList := by
  unfold Obligations.UnpackRestoresActiveList
  exact fun s => ⟨_, exec_pack_of_eq rfl, s.block.unpack_pack⟩

/-- Settles O18: the fresh byte, the pending byte and the others, one lemma each. -/
theorem phaseAWritesByteAndHighNibble : Obligations.PhaseAWritesByteAndHighNibble := by
  unfold Obligations.PhaseAWritesByteAndHighNibble
  intro s v hphase hcursor
  have hpending := Block.readByte_phaseA_pending hcursor v
  refine ⟨_, execPhaseA_eq_next.2 ⟨hphase, hcursor, rfl⟩, Block.readByte_phaseA_fresh hcursor v, ?_, ?_,
    fun j h0 h1 => Block.readByte_phaseA_of_ne h0 h1 v, Block.phaseA_cursor_val hcursor v,
    rfl, rfl, rfl, rfl, rfl, rfl, rfl, rfl⟩
  · rw [State.mapBlock_block, hpending, setHighNibble_extract_high]; rfl
  · rw [State.mapBlock_block, hpending, setHighNibble_extract_low]

/-- Settles O19: the pending byte, the fresh byte and the others, one lemma each. -/
theorem phaseBWritesLowNibbleAndByte : Obligations.PhaseBWritesLowNibbleAndByte := by
  unfold Obligations.PhaseBWritesLowNibbleAndByte
  intro s v hphase hcursor
  have hpending := Block.readByte_phaseB_pending hcursor v
  refine ⟨_, execPhaseB_eq_next.2 ⟨hphase, hcursor, rfl⟩, ?_, ?_, Block.readByte_phaseB_fresh hcursor v,
    fun j h0 h1 => Block.readByte_phaseB_of_ne h0 h1 v, Block.phaseB_cursor_val hcursor v,
    rfl, rfl, rfl, rfl, rfl, rfl, rfl, rfl⟩
  · rw [State.mapBlock_block, hpending, setLowNibble_extract_low]; rfl
  · rw [State.mapBlock_block, hpending, setLowNibble_extract_high]

/-- Settles O21: the bits of the frame, the invariant's zero bytes past it, and PACK's own frame. -/
theorem packedFrameIsBitString : Obligations.PackedFrameIsBitString := by
  unfold Obligations.PackedFrameIsBitString
  exact fun s => ⟨_, exec_pack_of_eq rfl, s.block.pack_frameBits, s.block.pack_trailingZero_frameClosed.1,
    s.block.pack_cfg, s.block.pack_table, rfl, rfl, rfl, rfl⟩

/-- Settles O23: the cursor and the phase count the samples, and the frame ends at the cursor and the pending byte. -/
theorem packLeavesCursorPhaseLength : Obligations.PackLeavesCursorPhaseLength := by
  unfold Obligations.PackLeavesCursorPhaseLength
  intro s
  obtain ⟨hcursor, hphase⟩ := s.block.pack_cursor_phase
  have hclosed : s.block.pack.FrameClosed := s.block.pack_trailingZero_frameClosed.2
  exact ⟨_, exec_pack_of_eq rfl, hcursor, hphase, hclosed.symm.trans s.block.pack_frameLen, s.block.pack_frameLen,
    by decide⟩

/-- Settles O24: the pending byte keeps the clear's nibble, and the length is that of R74. -/
theorem oddFrameEndsInZeroNibble : Obligations.OddFrameEndsInZeroNibble := by
  unfold Obligations.OddFrameEndsInZeroNibble
  intro s
  have hlen : s.block.pack.frameLen.val = (3 * s.activeCount + 1) / 2 := s.block.pack_frameLen
  refine ⟨_, exec_pack_of_eq rfl, fun hodd => ⟨Block.pack_last_lowNibble hodd, ?_⟩, fun heven => ?_⟩ <;>
    · rw [hlen]
      omega

/-- Settles O25: PACK clears the buffer and then reads the active values alone. -/
theorem packDependsOnlyOnActiveValues : Obligations.PackDependsOnlyOnActiveValues := by
  unfold Obligations.PackDependsOnlyOnActiveValues
  intro s s' h
  obtain ⟨hbuf, hlen, -, -⟩ := Block.pack_congr h
  exact ⟨_, _, exec_pack_of_eq rfl, exec_pack_of_eq rfl, hbuf, hlen⟩

/-- Settles O26: the second PACK leaves the block of the first. -/
theorem packIsIdempotent : Obligations.PackIsIdempotent := by
  unfold Obligations.PackIsIdempotent
  exact fun s => ⟨_, exec_pack_of_eq rfl, exec_pack_of_eq s.block.pack_idem⟩

/-- Settles O27: a frame of length 0, so every byte lies past it, and EMIT's emission of no bytes. -/
theorem noActiveChannelGivesEmptyFrame : Obligations.NoActiveChannelGivesEmptyFrame := by
  unfold Obligations.NoActiveChannelGivesEmptyFrame
  intro s hcount
  have hlen : s.block.pack.frameLen.val = 0 := by
    rw [Block.pack_frameLen, show s.block.activeCount = 0 from hcount]; rfl
  have hbytes : s.block.pack.frameBytes = [] := List.length_eq_zero_iff.1 (by rw [Block.frameBytes_length, hlen])
  refine ⟨_, _, exec_pack_of_eq rfl, rfl, hlen, fun j => ?_, fun hrun => ?_⟩
  · exact s.block.pack_trailingZero_frameClosed.1 j (by omega)
  · rw [State.emitFrame_emitted]
    simp [hrun, hbytes, State.emitSel]

/-- Settles O20: the phase is asked before the bound. -/
theorem phasesStopOutsideTheirPhase : Obligations.PhasesStopOutsideTheirPhase := by
  unfold Obligations.PhasesStopOutsideTheirPhase
  intro s v
  refine ⟨fun h => ?_, fun h => ?_, fun h hc => ?_, fun h hc => ?_⟩
  · simp [exec, execPhaseA, h]
  · simp [exec, execPhaseB, h]
  · simp [exec, execPhaseA, h, Block.phaseFits_eq_false hc]
  · simp [exec, execPhaseB, h, Block.phaseFits_eq_false hc]

end Sys2Proof.Proofs

/-! PROOFS. The family 43_tick_and_dispatch: what EMIT hands over, a tick as its operations in order, and what a step
can be and leaves around the block. -/

namespace Sys2Proof.Machine

/-! ### EMIT and the byte streams (R91, R92, R93) -/

theorem State.emitFrame_emitted_of_on {s : State} (h : s.block.cfg.runState = true) :
    s.emitFrame.emitted = s.emitted ++ [⟨transportOf s.block.cfg.transportMode, s.block.frameBytes⟩] := by
  rw [State.emitFrame_emitted, if_pos h]

theorem State.emitFrame_emitted_of_off {s : State} (h : s.block.cfg.runState = false) :
    s.emitFrame.emitted = s.emitted := by
  simp [State.emitFrame_emitted, h]

/-- EMIT extends the record by one emission or leaves it (R89, R92). -/
theorem State.emitFrame_emitted_cases (s : State) :
    s.emitFrame.emitted = s.emitted ∨ ∃ e : Emission, s.emitFrame.emitted = s.emitted ++ [e] := by
  cases h : s.block.cfg.runState with
  | false => exact .inl (State.emitFrame_emitted_of_off h)
  | true => exact .inr ⟨_, State.emitFrame_emitted_of_on h⟩

/-- One emission more goes to the end of its own transport's stream (R93). -/
theorem State.stream_of_emitted_append {s t : State} {e : Emission} (h : t.emitted = s.emitted ++ [e])
    (tr : Transport) : t.stream tr = s.stream tr ++ (if e.sel = tr then e.bytes else []) := by
  by_cases hsel : e.sel = tr <;> simp [State.stream, h, hsel]

theorem State.emitFrame_stream (s : State) (tr : Transport) :
    s.emitFrame.stream tr = s.stream tr ++ (if s.emitValid ∧ s.emitSel = tr then s.frameOut else []) := by
  cases h : s.block.cfg.runState with
  | false => simp [State.stream, State.emitFrame_emitted_of_off h, State.emitValid, h]
  | true =>
    rw [State.stream_of_emitted_append (State.emitFrame_emitted_of_on h)]
    simp [State.emitValid, State.emitSel, State.frameOut, h]

/-! ### A tick's operations in order (R88) -/

theorem execAll_append_of_next {l : List Instr} {s t : State} (h : execAll l s = .next t) (rest : List Instr) :
    execAll (l ++ rest) s = execAll rest t := by
  induction l generalizing s with
  | nil => cases h; rfl
  | cons i l ih =>
    cases hi : exec i s with
    | next u =>
      rw [execAll_cons_of_next hi] at h
      rw [List.cons_append, execAll_cons_of_next hi, ih h]
    | fault f => simp [execAll, hi] at h
    | refused r => simp [execAll, hi] at h

/-- The words that are present, each decoded in turn (R37, R66). -/
theorem execAll_decodeInstrs (cwWired cwWireless : Option Word16) (s : State) :
    execAll (decodeInstrs cwWired cwWireless) s = .next (s.mapBlock (decodeWords cwWired cwWireless)) := by
  cases cwWired <;> cases cwWireless <;> rfl

theorem execAll_sampleAndSend (samples : Samples) (s : State) :
    execAll [.acquire samples, .pack, .emit] s = .next (s.sampleAndSend samples) := rfl

theorem execAll_decodes_first {s : State} (h : s.params.decodeFirst = true) (cwWired cwWireless : Option Word16)
    (samples : Samples) :
    execAll (decodeInstrs cwWired cwWireless ++ [.acquire samples, .pack, .emit]) s
      = .next (s.tick cwWired cwWireless samples) := by
  rw [execAll_append_of_next (execAll_decodeInstrs cwWired cwWireless s), execAll_sampleAndSend, State.tick, if_pos h]

theorem execAll_decodes_last {s : State} (h : s.params.decodeFirst = false) (cwWired cwWireless : Option Word16)
    (samples : Samples) :
    execAll ([.acquire samples, .pack, .emit] ++ decodeInstrs cwWired cwWireless) s
      = .next (s.tick cwWired cwWireless samples) := by
  rw [execAll_append_of_next (execAll_sampleAndSend samples s), execAll_decodeInstrs, State.tick_of_decodeLast h]

/-! ### What a tick leaves in the record (R89) -/

/-- A tick has one EMIT, and its decodes emit nothing (R88, R89). -/
theorem State.tick_emitted_cases (s : State) (cwWired cwWireless : Option Word16) (samples : Samples) :
    (s.tick cwWired cwWireless samples).emitted = s.emitted
      ∨ ∃ e : Emission, (s.tick cwWired cwWireless samples).emitted = s.emitted ++ [e] := by
  cases h : s.params.decodeFirst with
  | true => rw [State.tick_of_decodeFirst h]; exact State.emitFrame_emitted_cases _
  | false => rw [State.tick_of_decodeLast h]; exact State.emitFrame_emitted_cases _

end Sys2Proof.Machine

namespace Sys2Proof.Proofs

open Sys2Proof Sys2Proof.Machine

/-- Settles O30: EMIT's emission, if there is one, lengthens the stream of its own transport. -/
theorem emitExtendsSelectedStreamOnly : Obligations.EmitExtendsSelectedStreamOnly := by
  unfold Obligations.EmitExtendsSelectedStreamOnly
  exact fun s => ⟨_, rfl, s.emitFrame_stream⟩

/-- Settles O31: for each order of DECODE_FIRST, the two parts of the tick one after the other. -/
theorem tickRunsItsOperationsInOrder : Obligations.TickRunsItsOperationsInOrder := by
  unfold Obligations.TickRunsItsOperationsInOrder
  intro s cwWired cwWireless samples hanswer
  exact ⟨_, execTick_of_answered hanswer cwWired cwWireless samples,
    fun hfirst => execAll_decodes_first hfirst cwWired cwWireless samples,
    fun hlast => execAll_decodes_last hlast cwWired cwWireless samples⟩

/-- Settles O40, by what a step can do: a wait and a RESET emit nothing, and a TICK has one EMIT. -/
theorem stepEmitsAtMostOnce : Obligations.StepEmitsAtMostOnce := by
  unfold Obligations.StepEmitsAtMostOnce
  intro s t hstep
  obtain ⟨hinbox, rfl⟩ | ⟨a, rest, i, hinbox, hdecode, hexec⟩ := step_cases hstep
  · exact ⟨.inl rfl, rfl, by rw [hinbox, List.tail_nil]⟩
  · rw [hinbox, List.tail_cons]
    obtain ⟨-, rfl⟩ | ⟨-, rfl⟩ := decode_event_cases.mp hdecode
    · cases hexec
      exact ⟨.inl rfl, rfl, rfl⟩
    · obtain ⟨-, rfl⟩ := execTick_eq_next.mp hexec
      exact ⟨State.tick_emitted_cases _ _ _ _, State.tick_params .., State.tick_inbox ..⟩

/-- Settles O54: the step runs what the event decodes to, and the event's code says which of the two that is. -/
theorem everyStepIsResetTickOrWait : Obligations.EveryStepIsResetTickOrWait := by
  unfold Obligations.EveryStepIsResetTickOrWait
  intro s t hstep
  obtain hwait | ⟨⟨e, c⟩, rest, i, hinbox, hdecode, hexec⟩ := step_cases hstep
  · exact .inl hwait
  · refine .inr ⟨e, c, rest, hinbox, ?_⟩
    obtain ⟨hev, rfl⟩ | ⟨hev, rfl⟩ := decode_event_cases.mp hdecode
    · exact .inl ⟨hev, hexec⟩
    · exact .inr ⟨hev, hexec⟩

/-- Settles O29: the emission by the run state and the mode, and what EMIT leaves as it was. -/
theorem emitHandsFrameToSelectedTransport : Obligations.EmitHandsFrameToSelectedTransport := by
  unfold Obligations.EmitHandsFrameToSelectedTransport
  intro s
  refine ⟨_, rfl, fun hrun hmode => ?_, fun hrun hmode => ?_, State.emitFrame_emitted_of_off,
    s.emitFrame_block, s.emitFrame_params, s.emitFrame_collab, s.emitFrame_inbox⟩
  · rw [State.emitFrame_emitted_of_on hrun, transportOf, if_pos hmode]; rfl
  · rw [State.emitFrame_emitted_of_on hrun, transportOf, if_neg hmode]; rfl

/-- Settles O48: the fetch, then the decoder's answer. -/
theorem stepRunsDecodedInstruction : Obligations.StepRunsDecodedInstruction := by
  unfold Obligations.StepRunsDecodedInstruction
  exact fun _ _ _ _ hinbox hdecode => step_of_decode_ok hinbox hdecode

end Sys2Proof.Proofs

/-! PROOFS. The family 60_exceptions: a tick that halts the block, and where an instruction can stop at all. -/

namespace Sys2Proof.Machine

/-! ### A tick without an answer (R98) -/

/-- The collaborator that is missing does not answer, and those asked before it do: acquisition, then wired, then
wireless (log entry 8). -/
theorem Collaborators.missing_eq_some {c : Collaborators} {m : Collaborator} :
    c.missing = some m ↔
      m = .acquisition ∧ c.acquisition = false
        ∨ m = .transport .wired ∧ c.acquisition = true ∧ c.wired = false
        ∨ m = .transport .wireless ∧ c.acquisition = true ∧ c.wired = true ∧ c.wireless = false := by
  rcases c with ⟨a, b, d⟩
  cases a <;> cases b <;> cases d <;> simp [Collaborators.missing, eq_comm]

/-- One collaborator that does not answer is enough for somebody to be missing. -/
theorem Collaborators.exists_missing {c : Collaborators}
    (h : c.acquisition = false ∨ c.wired = false ∨ c.wireless = false) : ∃ m, c.missing = some m := by
  refine Option.ne_none_iff_exists'.mp fun hnone => ?_
  obtain ⟨hacquisition, hwired, hwireless⟩ := Collaborators.missing_eq_none.mp hnone
  simp [hacquisition, hwired, hwireless] at h

theorem execTick_of_missing {s : State} {m : Collaborator} (h : s.collab.missing = some m) (a b : Option Word16)
    (samples : Samples) : execTick a b samples s = .fault (.tickHalted m) := by
  simp only [execTick, h]

theorem step_of_fetch {s t : State} {e : Event} {i : Instr} (hfetch : s.fetch = some (e, t))
    (hdecode : decode (.event e) = .ok i) : step s = exec i t := by
  simp only [step, hfetch, hdecode]

/-- A fault ends the run: no later step changes it. -/
theorem run_succ_of_fault {s : State} {r : Fault} (h : step s = .fault r) (k : Nat) :
    Host.Core.run Sys2Proof.core (k + 1) s = .fault r := by
  have hcore : Sys2Proof.core.step s = .fault r := h
  simp only [Host.Core.run, hcore]

end Sys2Proof.Machine

namespace Sys2Proof.Proofs

open Sys2Proof Sys2Proof.Machine

/-- Settles O35: somebody is missing, the tick faults with its name, and so does every run whose first event it is. -/
theorem unansweredTickHaltsForGood : Obligations.UnansweredTickHaltsForGood := by
  unfold Obligations.UnansweredTickHaltsForGood
  intro s cwWired cwWireless samples hsilent
  obtain ⟨m, hm⟩ := Collaborators.exists_missing hsilent
  have hfault : exec (.tick cwWired cwWireless samples) s = .fault (.tickHalted m) :=
    execTick_of_missing hm cwWired cwWireless samples
  have hrun : ∀ (before : State) (e : Event), before.fetch = some (e, s) →
      decode (.event e) = .ok (.tick cwWired cwWireless samples) →
      ∀ k : Nat, Host.Core.run Sys2Proof.core (k + 1) before = .fault (Fault.tickHalted m) :=
    fun _ _ hfetch hdecode => run_succ_of_fault ((step_of_fetch hfetch hdecode).trans hfault)
  obtain ⟨rfl, h⟩ | ⟨rfl, -, h⟩ | ⟨rfl, -, -, h⟩ := Collaborators.missing_eq_some.mp hm
  · exact ⟨_, hfault, fun _ => h, nofun, nofun, hrun⟩
  · exact ⟨_, hfault, nofun, fun _ => h, nofun, hrun⟩
  · exact ⟨_, hfault, nofun, nofun, fun _ => h, hrun⟩

/-- Settles O41: TICK and the two phases complete under their premises, and no other instruction has one. -/
theorem execStopsOnlyWhereNamed : Obligations.ExecStopsOnlyWhereNamed := by
  unfold Obligations.ExecStopsOnlyWhereNamed
  intro i s htick hphaseA hphaseB
  cases i with
  | tick cwWired cwWireless samples =>
    have hanswer : s.collab.missing = none := htick.resolve_right fun h => h cwWired cwWireless samples rfl
    exact ⟨_, execTick_of_answered hanswer cwWired cwWireless samples⟩
  | phaseA v =>
    obtain ⟨hphase, hcursor⟩ := hphaseA v rfl
    exact ⟨_, execPhaseA_eq_next.mpr ⟨hphase, hcursor, rfl⟩⟩
  | phaseB v =>
    obtain ⟨hphase, hcursor⟩ := hphaseB v rfl
    exact ⟨_, execPhaseB_eq_next.mpr ⟨hphase, hcursor, rfl⟩⟩
  | _ => exact ⟨_, rfl⟩

end Sys2Proof.Proofs

/-! PROOFS. The family 70_reset_and_hazards: digits whose terminator has not arrived, and a step with no arrival. -/

namespace Sys2Proof.Machine

/-! ### An unterminated text (R115) -/

/-- A text holds no complete number exactly while each of its bytes is a digit: the terminator is still to come. -/
theorem completeNumber_eq_none {text : List Byte} :
    completeNumber text = none ↔ ∀ c ∈ text, isDigit c = true := by
  rw [← List.dropWhile_eq_nil_iff]
  cases h : text.dropWhile isDigit <;> simp [completeNumber, h]

/-- Without a complete number no word is delivered, and the whole text waits. -/
theorem deliverWord_of_incomplete {text : List Byte} (h : completeNumber text = none) :
    deliverWord text = (none, text) := by
  simp only [deliverWord, h]

end Sys2Proof.Machine

namespace Sys2Proof.Proofs

open Sys2Proof Sys2Proof.Machine

/-- Settles O53: a text of digits alone holds no complete number. -/
theorem unterminatedDigitsDeliverNothing : Obligations.UnterminatedDigitsDeliverNothing := by
  unfold Obligations.UnterminatedDigitsDeliverNothing
  intro ds hds
  have hincomplete : completeNumber ds = none :=
    completeNumber_eq_none.mpr fun d hd => isDigit_iff.mpr (hds d hd)
  exact deliverWord_of_incomplete hincomplete

/-- Settles O49: an empty inbox gives the step nothing to fetch. -/
theorem stepWithoutArrivalWaits : Obligations.StepWithoutArrivalWaits := by
  unfold Obligations.StepWithoutArrivalWaits
  exact fun _ hinbox => step_of_inbox_nil hinbox

end Sys2Proof.Proofs
